-- ==== Sys2Proof/Word.lean ====
section
/-! DEFINITION. Words of the JF-320: 16-bit words, 32-bit values in two words, saturating 16-bit counters (R180, "Conventions"). -/

namespace Sys2Proof

/-- One 16-bit word of the stroke link, of a register or of shared memory. -/
abbrev Word := BitVec 16

/-- A 32-bit value: two consecutive words, low word first (R180). Frame numbers are of this type and wrap (R7). -/
abbrev Long := BitVec 32

/-- A 16-bit counter that saturates at 65535 ("Conventions"; R17, R36). -/
abbrev Counter := BitVec 16

/-- One more occurrence on a saturating counter. -/
def satInc (c : Counter) : Counter := if c = 65535#16 then c else c + 1#16

/-- `n` more occurrences on a saturating counter. -/
def satAdd (c : Counter) (n : Nat) : Counter := BitVec.ofNat 16 (min 65535 (c.toNat + n))

/-- The 32-bit value of two words, the low word first (R180). -/
def longOf (lo hi : Word) : Long := hi ++ lo

/-- The low word of a 32-bit value (R180). -/
def loWord (v : Long) : Word := v.setWidth 16

/-- The high word of a 32-bit value (R180). -/
def hiWord (v : Long) : Word := (v >>> 16).setWidth 16

end Sys2Proof
end

