-- ==== Sys2Proof/Config.lean ====
section
/-! DEFINITION. The part's fixed figures ("Principal figures" and the rules named at each). The spec leaves no value
open to an implementation, so there is no free value here. -/

namespace Sys2Proof.Config

/-- Reference periods without a word that align a receiver: 1 ms (R1). -/
def silenceLimit : Nat := 1000

/-- Reference periods without a FRAME START that lose the link: 250 ms (R11). -/
def linkTimeout : Nat := 250000

/-- The greatest value of a beam step counter (R4). -/
def stepMax : Nat := 1048575

/-- Entries of a stroke history (R15). -/
def historySize : Nat := 32

/-- Pen dead time in beam steps (R20). -/
def deadTime : Nat := 8

/-- The greatest screen coordinate (R3, R60, R131, R139). -/
def screenMax : Nat := 4095

/-- The greatest address of the 22-bit word space ("Conventions"; R180). -/
def lastAddress : Nat := 4194303

/-- Entries of a candidate table (R72). -/
def tableSize : Nat := 8

/-- Records of a staging queue (R154). -/
def queueSize : Nat := 4

/-- Records of a report page (R153). -/
def pageRecords : Nat := 8

/-- Words of a record (R156, R186). -/
def recordWords : Nat := 12

/-- Words of a context block (R56). -/
def contextWords : Nat := 256

/-- Words of a counter snapshot (R177). -/
def snapshotWords : Nat := 64

/-- Buttons of a menu page (R107, R110). -/
def maxButtons : Nat := 24

/-- Pages of a page stack (R107). -/
def stackDepth : Nat := 4

/-- Good frames that end a calibration (R148). -/
def goodFrames : Nat := 8

/-- Judged frames after which a calibration times out (R148). -/
def judgedFrames : Nat := 32

end Sys2Proof.Config
end

