-- ==== Sys2Proof/Syntax.lean ====
section
/-! DEFINITION. The commands of the JF-320: one constructor for each of the 48 rows of the opcode table. -/

namespace Sys2Proof

/-- A display head. -/
inductive Head where
  | A
  | B
  deriving DecidableEq, Repr

/-- A light pen. -/
inductive Pen where
  | p0
  | p1
  | p2
  | p3
  deriving DecidableEq, Repr

/-- How a memory read ends: with the word read, or with a bus error (R178, R179). -/
inductive ReadEnd where
  | word (w : Word)
  | busError
  deriving DecidableEq, Repr

/-- How a memory write ends: complete, or with a bus error (R178, R179). -/
inductive WriteEnd where
  | done
  | busError
  deriving DecidableEq, Repr

/-- The commands. The part's inputs (link words, step and pen pulses, tip changes, register writes, reset) carry what
the line carries. The part's own events (a timer's end, a scan's begin, a completed stop) carry nothing. The end of a memory
access carries what the bus answered; the access itself stands in the state (R178). A request's command is the completion
of the slot's TAKEN write, upon which the engine checks the request and carries it out (R172, R173); the request's arguments
stand in the state, where the slot's reads have put them. -/
inductive Instr where
  /-- FRAME_START: a word strobe on `h` that carries the good header word `w` of a FRAME START (R7, R181). -/
  | frameStart (h : Head) (w : Word)
  /-- SYNCHRONISING_FRAME_START: the same strobe, taken by a SEEKING head (R6). -/
  | synchronisingFrameStart (h : Head) (w : Word)
  /-- STROKE: the word strobe that carries the seventh word of a STROKE item, with the parity line (R13). -/
  | stroke (h : Head) (w : Word) (parity : Bool)
  /-- UNKNOWN_HEADER: a word strobe with a bad header word (R2). -/
  | unknownHeader (h : Head) (w : Word) (parity : Bool)
  /-- SILENCE_ALIGNMENT: the silence timer of `h` reaches 1,000 (R1). -/
  | silenceAlignment (h : Head)
  /-- STEP_PULSE: one pulse on the step line of `h` (R4). -/
  | stepPulse (h : Head)
  /-- LINK_LOSS: the link timer of `h` reaches 250,000 (R11). -/
  | linkLoss (h : Head)
  /-- PEN_PULSE: one pulse on the pulse line of pen `p` (R20). -/
  | penPulse (p : Pen)
  /-- TIP_CLOSE: the tip switch of pen `p` closes (R19). -/
  | tipClose (p : Pen)
  /-- TIP_OPEN: the tip switch of pen `p` opens (R19). -/
  | tipOpen (p : Pen)
  /-- START: a write of `w` to CONTROL with RUN 1 (R165, R167). -/
  | start (w : Word)
  /-- DEFERRED_START: the start that waited for a stop is taken (R167). -/
  | deferredStart
  /-- RUN_STOP: a write of `w` to CONTROL with RUN 0 (R165, R168). -/
  | runStop (w : Word)
  /-- STOP_COMPLETE: the access that was in flight at the RUN stop ends (R168). -/
  | stopComplete (e : WriteEnd)
  /-- HEAD_ENABLE: a write of `w` to CONTROL with the enable of `h` 1 (R5, R165). -/
  | headEnable (h : Head) (w : Word)
  /-- HEAD_DISABLE: a write of `w` to CONTROL with the enable of `h` 0 (R12, R165). -/
  | headDisable (h : Head) (w : Word)
  /-- NOTE_ENABLE: a write of `w` to CONTROL for its note enables (R165, R166). -/
  | noteEnable (w : Word)
  /-- SOFT_RESET: a write of `w` to CONTROL with SOFT RESET 1 (R165, R169). -/
  | softReset (w : Word)
  /-- HARDWARE_RESET: the reset input (R169). -/
  | hardwareReset
  /-- RESET_COMPLETE: the port is idle and every block holds its reset values (R169). -/
  | resetComplete
  /-- NOTE_CLEAR: a write of `w` to STATUS (R165, R166). -/
  | noteClear (w : Word)
  /-- ANCHOR: a write of `w` to ANCHOR (R165). -/
  | anchor (w : Word)
  /-- ATTENTION: a write of `w` to ATTENTION (R165, R171). -/
  | attention (w : Word)
  /-- SCAN: a scan of the request table begins (R171, R172). -/
  | scan
  /-- STATE_WORD_READ: the end of a scan's read of a slot's state word (R172). -/
  | stateWordRead (e : ReadEnd)
  /-- SLOT_WORD_READ: the end of a read of a slot's kind or argument word (R172). -/
  | slotWordRead (e : ReadEnd)
  /-- BAD_KIND: the TAKEN write of a request whose kind names none of the ten kinds ends (R173). -/
  | badKind (e : WriteEnd)
  /-- LOAD_CONTEXT: the TAKEN write of a LOAD CONTEXT ends, and the request is checked (R58). -/
  | loadContext (e : WriteEnd)
  /-- SWITCH_CONTEXT: likewise (R64). -/
  | switchContext (e : WriteEnd)
  /-- ARM_PEN: likewise (R175). -/
  | armPen (e : WriteEnd)
  /-- DISARM_PEN: likewise (R29). -/
  | disarmPen (e : WriteEnd)
  /-- MOVE_CROSS: likewise (R139). -/
  | moveCross (e : WriteEnd)
  /-- CALIBRATE_PEN: likewise (R145). -/
  | calibratePen (e : WriteEnd)
  /-- SET_MENU_PAGE: likewise (R127). -/
  | setMenuPage (e : WriteEnd)
  /-- HOLD_HEAD: likewise (R9). -/
  | holdHead (e : WriteEnd)
  /-- RELEASE_HEAD: likewise (R10). -/
  | releaseHead (e : WriteEnd)
  /-- READ_COUNTERS: likewise (R177). -/
  | readCounters (e : WriteEnd)
  /-- FENCE_READ: the end of a read of a fence word (R175). -/
  | fenceRead (e : ReadEnd)
  /-- CONTEXT_WORD_READ: the end of a read of a context block word (R59). -/
  | contextWordRead (e : ReadEnd)
  /-- SNAPSHOT_WORD_WRITTEN: the end of a write of a snapshot word (R177). -/
  | snapshotWordWritten (e : WriteEnd)
  /-- RESULT_WORD_WRITTEN: the end of a write of a result word (R174). -/
  | resultWordWritten (e : WriteEnd)
  /-- MENU_LOAD_READ: the end of a page load's read (R110). -/
  | menuLoadRead (e : ReadEnd)
  /-- WRITE_BACK_DONE: the end of a write of a button's state word (R126). -/
  | writeBackDone (e : WriteEnd)
  /-- REPORT_STATE_READ: the end of a read of a report page's state word (R155, R158, R159). -/
  | reportStateRead (e : ReadEnd)
  /-- RECORD_WORD_WRITTEN: the end of a write of a record word (R156). -/
  | recordWordWritten (e : WriteEnd)
  /-- HEADER_WORD_WRITTEN: the end of a write of a page header word (R158). -/
  | headerWordWritten (e : WriteEnd)
  /-- CENTRE_WORD_WRITTEN: the end of a write of a cross-centre word (R132). -/
  | centreWordWritten (e : WriteEnd)
  /-- WORD_STROBE: one rising edge of the word strobe of `h`, with the word and the parity line (R1). -/
  | wordStrobe (h : Head) (w : Word) (parity : Bool)
  deriving DecidableEq, Repr

end Sys2Proof
end

