-- ==== Sys2Proof/Decode.lean ====
section
/-! DEFINITION. Reading bits: fields of words, parity, header fields; and the decoder of the opcode table, whose rows have
no bits. -/

namespace Sys2Proof

/-- The field "bits hi–lo" of a word ("Memory and Link Formats"). -/
def bits (w : Word) (hi lo : Nat) : Nat := w.toNat / 2 ^ lo % 2 ^ (hi - lo + 1)

/-- The item type of a header word, bits 15–12 (R181). -/
def headerType (w : Word) : Nat := bits w 15 12

/-- Parity is good when the 16 data bits and the parity bit together hold an odd number of ones (R1). -/
def goodParity (w : Word) (parity : Bool) : Bool :=
  (List.range 16).foldl (fun b i => xor b (w.getLsbD i)) parity

/-- The position of a head's enable bit in CONTROL (R182). -/
def Head.enableBit : Head → Nat
  | .A => 1
  | .B => 2

/-- The command that a word spells by the table's bits. The opcode table gives no row any bits (98_reader.md counts 0 rows
with fixed bits and 0 with fields): a command of this block is an event, and no word spells one. -/
def decodeTableWord (_nbits _w : Nat) : Option Instr := none

end Sys2Proof
end

