-- ==== Sys2Proof/Machine/State.lean ====
section
/-! DEFINITION. The state of the JF-320, block by block ("Blocks"), as plain data, and its value after hardware reset. -/

namespace Sys2Proof.Machine

open Sys2Proof

/-! ## Repeated blocks -/

/-- One of something for each head. -/
structure PerHead (α : Type) where
  a : α
  b : α
  deriving DecidableEq, Repr

/-- One of something for each pen. -/
structure PerPen (α : Type) where
  p0 : α
  p1 : α
  p2 : α
  p3 : α
  deriving DecidableEq, Repr

/-- The number of a request slot, 0–7 (R170). -/
abbrev SlotNo := Fin 8

/-- The number of a view record, 0–3 (R56). -/
abbrev View := Fin 4

/-! ## Head receiver (R1 to R18) -/

/-- The state of a head receiver (R5, R6). -/
inductive HeadState where
  | off
  | seeking
  | synced
  deriving DecidableEq, Repr

/-- A word of an item being assembled, and whether its parity was good (R1, R2). -/
structure LinkWord where
  data : Word
  good : Bool
  deriving DecidableEq, Repr

/-- The kind of a stroke (R181). -/
inductive StrokeKind where
  | vector
  | point
  | text
  deriving DecidableEq, Repr

/-- An entry of the stroke history ("Stroke history"). -/
structure Stroke where
  kind : StrokeKind
  view : View
  tag : Nat
  cls : Nat
  x0 : Nat
  y0 : Nat
  x1 : Nat
  y1 : Nat
  /-- The announced length L. -/
  len : Nat
  /-- The start step s0. -/
  s0 : Nat
  /-- The effective length. -/
  eff : Nat
  deriving DecidableEq, Repr

/-- One part of the calibration target record (R16). -/
structure Target where
  s0 : Nat
  len : Nat
  deriving DecidableEq, Repr

/-- A head receiver (R18 lists its state). -/
structure HeadRx where
  state : HeadState
  aligned : Bool
  /-- The silence timer, in reference periods (R1). -/
  silence : Nat
  /-- The words of the item being assembled, first word first; empty when there is none (R2). -/
  item : List LinkWord
  step : Nat
  saturated : Bool
  frame : Long
  /-- The frame-in-window count (R8). -/
  windowCount : Nat
  /-- The link timer, in reference periods (R11). -/
  linkTimer : Nat
  hold : Bool
  holdPending : Bool
  /-- The request slot that waits on the pending hold or release (R9, R10). -/
  waitingSlot : Option SlotNo
  /-- The stroke history, oldest first (R13). -/
  history : List Stroke
  overwritten : Bool
  forward : Option Target
  reverse : Option Target
  linkErrors : Counter
  linkLosses : Counter
  overlaps : Counter
  deriving DecidableEq, Repr

/-! ## Context store (R55 to R71) -/

/-- The name of a context slot. -/
inductive SlotName where
  | A
  | B
  deriving DecidableEq, Repr

/-- The state of a context slot (R55). -/
inductive SlotState where
  | invalid
  | loading
  | valid
  deriving DecidableEq, Repr

/-- A context slot: its state and the words placed in it so far, 256 when it is VALID (R56, R59). -/
structure CtxSlot where
  state : SlotState
  words : List Word
  deriving DecidableEq, Repr

/-- A context store. The switch-pending flag and the recorded request slot are one field: a slot is recorded while the
flag is set (R55). -/
structure CtxStore where
  slotA : CtxSlot
  slotB : CtxSlot
  active : SlotName
  switchPending : Option SlotNo
  deriving DecidableEq, Repr

/-! ## Records (R88, R124, R135, R137, R82, R155, R186) -/

/-- The axis pair of a record (R97, R104). -/
inductive AxisPair where
  | xy
  | xz
  | yz
  | none
  deriving DecidableEq, Repr

/-- The reason of a window close that makes a decision (R88). -/
inductive CloseReason where
  | boundary
  | release
  | idle
  deriving DecidableEq, Repr

/-- The cause of a TRACK LOST record and the reason of an ABORT record (R82, R137). -/
inductive LossCause where
  | misses
  | linkLoss
  | disable
  deriving DecidableEq, Repr

/-- The kind of a light button (R108). -/
inductive ButtonKind where
  | momentary
  | toggle
  | choice
  | page
  | back
  | escape
  deriving DecidableEq, Repr

/-- The status of a MENU record (R124). -/
inductive MenuStatus where
  | done
  | stackFull
  | stackEmpty
  | badPage
  | busError
  deriving DecidableEq, Repr

/-- What a conversion gives: the axis pair, two loft coordinates and four flags (R96). -/
structure Converted where
  axes : AxisPair
  first : Int
  second : Int
  clamp1 : Bool
  clamp2 : Bool
  grid1 : Bool
  grid2 : Bool
  deriving DecidableEq, Repr

/-- A PICK record (R88). -/
structure PickRecord where
  tag : Nat
  cls : Nat
  view : View
  hits : Nat
  eligible : Nat
  x : Nat
  y : Nat
  loft : Converted
  crowded : Bool
  tie : Bool
  reason : CloseReason
  frame : Long
  deriving DecidableEq, Repr

/-- A MENU record, or one that awaits its page number and status (R124). -/
structure MenuRecord where
  index : Nat
  kind : ButtonKind
  state : Bool
  page : Nat
  action : Word
  status : MenuStatus
  frame : Long
  deriving DecidableEq, Repr

/-- A TRACK record (R135). -/
structure TrackRecord where
  x : Nat
  y : Nat
  loft : Converted
  final : Bool
  frame : Long
  deriving DecidableEq, Repr

/-- A record as produced. A LOST record is made by the report path itself and is not staged (R155). -/
inductive Record where
  | pick (r : PickRecord)
  | menu (r : MenuRecord)
  | track (r : TrackRecord)
  | trackLost (x y : Nat) (cause : LossCause) (frame : Long)
  | abort (reason : LossCause) (entries : Nat) (frame : Long)
  | lost (count : Counter)
  deriving DecidableEq, Repr

/-! ## Menu unit (R107 to R129) -/

/-- A menu table entry (R107). -/
structure Button where
  tag : Nat
  kind : ButtonKind
  group : Nat
  target : Nat
  action : Word
  state : Bool
  deriving DecidableEq, Repr

/-- A MENU record set aside for a pen until a page load ends (R124). Its page and status are filled in then. -/
structure Await where
  pen : Pen
  record : MenuRecord
  deriving DecidableEq, Repr

/-- What started a page load (R107, R109). -/
inductive LoadOrigin where
  | setPage (slot : SlotNo) (clear : Bool)
  | pageButton (await : Option Await)
  | backButton (await : Option Await)
  deriving DecidableEq, Repr

/-- Which word a page load reads next (R110). -/
inductive LoadPhase where
  | dirLow
  | dirHigh (lo : Word)
  | entryLow (dir : Nat)
  | entryHigh (dir : Nat) (lo : Word)
  | count (addr : Nat)
  | buttons (addr : Nat) (count : Nat)
  deriving DecidableEq, Repr

/-- A page load in flight (R107, R109). -/
structure PageLoad where
  page : Nat
  origin : LoadOrigin
  phase : LoadPhase
  deriving DecidableEq, Repr

/-- The current page: its number and the address it was loaded from (R107). -/
structure CurrentPage where
  number : Nat
  addr : Nat
  deriving DecidableEq, Repr

/-- A menu unit (R107). -/
structure MenuUnit where
  table : List Button
  current : Option CurrentPage
  /-- The staging table: the button words read so far. The count, page number and page address of the load stand in it. -/
  staging : List Word
  /-- The page stack, top first. -/
  stack : List Nat
  /-- The load-in-flight flag with the load. -/
  load : Option PageLoad
  /-- The dirty set, lowest index first, no index twice. -/
  dirty : List Nat
  deriving DecidableEq, Repr

/-! ## Pen channel (R19 to R37, R72, R115, R130, R144) -/

/-- The state of a pen channel (R24). -/
inductive PenState where
  | disarmed
  | armed
  | calibrating
  deriving DecidableEq, Repr

/-- The arm mode (R25). -/
inductive Mode where
  | pick
  | track
  deriving DecidableEq, Repr

/-- The arm options a pen channel holds (R25). The report pages are the report path's. -/
structure ArmOptions where
  head : Head
  mode : Mode
  single : Bool
  gated : Bool
  /-- The tracking block's address. -/
  block : Option Nat
  view : View
  deriving DecidableEq, Repr

/-- An entry of the candidate table (R73). -/
structure Candidate where
  tag : Nat
  cls : Nat
  view : View
  hits : Nat
  sumX : Nat
  sumY : Nat
  arrival : Nat
  lastHit : Long
  deriving DecidableEq, Repr

/-- The window state (R72). -/
structure WindowState where
  /-- The candidate table, in the order the entries were made. -/
  table : List Candidate
  idle : Nat
  crowded : Bool
  nextArrival : Nat
  deriving DecidableEq, Repr

/-- A confirm run (R115). -/
structure ConfirmRun where
  button : Nat
  count : Nat
  last : Long
  deriving DecidableEq, Repr

/-- A lockout (R115). -/
structure Lockout where
  button : Nat
  last : Long
  deriving DecidableEq, Repr

/-- The tracking state proper (R130). -/
inductive Fix where
  | noFix
  | tracking
  | lost
  deriving DecidableEq, Repr

/-- A fence (R130). -/
structure Fence where
  xmin : Nat
  xmax : Nat
  ymin : Nat
  ymax : Nat
  deriving DecidableEq, Repr

/-- The centre-write state (R132). -/
inductive CentreWrite where
  | idle
  | writing
  | writingAgain
  deriving DecidableEq, Repr

/-- A pen's tracking state with its parts (R130). -/
structure Tracking where
  fix : Fix
  fence : Option Fence
  cx : Nat
  cy : Nat
  rx : Nat
  ry : Nat
  sumX : Nat
  nX : Nat
  sumY : Nat
  nY : Nat
  miss : Nat
  lastArm : Option Long
  centre : CentreWrite
  /-- Whether word 0 of the pair being written is complete, so that word 1 is the next (R132). -/
  second : Bool
  deriving DecidableEq, Repr

/-- One measurement of a frame: the step difference and the target length it was measured against (R144). -/
structure Measure where
  t : Nat
  len : Nat
  deriving DecidableEq, Repr

/-- A calibration measurement (R144). -/
structure Calibration where
  slot : SlotNo
  good : Nat
  judged : Nat
  sum : Int
  fwd : Option Measure
  rev : Option Measure
  deriving DecidableEq, Repr

/-- Why a hit is unmatched (R39 to R42). -/
inductive Unmatched where
  | early
  | overlong
  | aged
  | gap
  deriving DecidableEq, Repr

/-- A pen's eight counters (R36). -/
structure PenCounters where
  hits : Counter
  ignored : Counter
  unmatched : Counter
  foreign : Counter
  filtered : Counter
  crowded : Counter
  empty : Counter
  menuBusy : Counter
  deriving DecidableEq, Repr

/-- A pen channel. -/
structure PenChannel where
  /-- The tip state, which follows the tip-switch line (R19). -/
  tipClosed : Bool
  state : PenState
  opts : ArmOptions
  delay : Nat
  /-- The dead-time mark: a frame number and a hit step (R20). -/
  deadMark : Option (Long × Nat)
  heldMark : Bool
  window : WindowState
  run : Option ConfirmRun
  lockout : Option Lockout
  track : Tracking
  calib : Option Calibration
  /-- The last-unmatched record: a reason and a frame number (R44). -/
  lastUnmatched : Option (Unmatched × Long)
  counters : PenCounters
  deriving DecidableEq, Repr

/-! ## Report path (R152 to R164) -/

/-- The output state (R152). -/
inductive Output where
  | none
  | taking
  | owned
  | turning
  | stalled
  | fault
  deriving DecidableEq, Repr

/-- One of a pen's two report pages. -/
inductive PageSel where
  | p0
  | p1
  deriving DecidableEq, Repr

/-- A pen's two page addresses (R152). -/
structure PageAddrs where
  page0 : Nat
  page1 : Nat
  deriving DecidableEq, Repr

/-- The kind of a close mark (R152). -/
inductive MarkKind where
  | boundary
  | flush
  deriving DecidableEq, Repr

/-- A close mark: a count of queued records, with a kind (R152). -/
structure CloseMark where
  kind : MarkKind
  count : Nat
  deriving DecidableEq, Repr

/-- A report path (R152), with its place in the record, the header or the re-read it is making (R156, R158, R159). -/
structure ReportPath where
  pages : Option PageAddrs
  out : Output
  current : PageSel
  fill : Nat
  /-- The staging queue, oldest first. -/
  queue : List Record
  mark : Option CloseMark
  pendingPages : Option PageAddrs
  lost : Counter
  seq : Word
  /-- The count of a LOST record formed and not yet fully written (R155). -/
  lostRecord : Option Counter
  /-- Words already written of the record being written (R156). -/
  recordWord : Nat
  /-- In TURNING: header writes already made, 0–3; at 3 the other page's state word is read (R158). -/
  turnStep : Nat
  /-- In STALLED: a re-read has been raised and has not completed (R159). -/
  reread : Bool
  deriving DecidableEq, Repr

/-! ## Request engine (R170 to R177) -/

/-- An entry of the result list (R174). -/
structure Result where
  slot : SlotNo
  code : Word
  value : Word
  deriving DecidableEq, Repr

/-- A scan in progress: the last-served slot at its start, and how many state words it has dealt with (R172). -/
structure ScanPos where
  base : SlotNo
  seen : Nat
  deriving DecidableEq, Repr

/-- What the engine is doing with the slot it took (R172, R173). The words of a request are word 1 and words 4–15. -/
inductive Work where
  | none
  /-- Reading the slot's words (R172 step 1). -/
  | reading (slot : SlotNo) (words : List Word)
  /-- Writing TAKEN (R172 step 2). -/
  | taking (slot : SlotNo) (words : List Word)
  /-- Busy with a LOAD CONTEXT: `k` words of the block are read (R59). -/
  | loading (slot : SlotNo) (h : Head) (c : SlotName) (addr : Nat) (k : Nat)
  /-- Busy reading a fence for a TRACK arm (R175). -/
  | fencing (slot : SlotNo) (words : List Word) (fence : List Word)
  /-- Busy writing a snapshot: `k` words are written; `hi` is the high half taken with a low word (R177). -/
  | snapshot (slot : SlotNo) (addr : Nat) (clear : Bool) (k : Nat) (hi : Word)
  deriving DecidableEq, Repr

/-- The request engine (R169 lists its reset values). -/
structure Engine where
  scanPending : Bool
  lastServed : SlotNo
  scan : Option ScanPos
  work : Work
  /-- The result list, front first (R174). -/
  results : List Result
  /-- Writes already made of the front result's three (R174). -/
  resultStep : Nat
  outstanding : List SlotNo
  deriving DecidableEq, Repr

/-! ## Memory port (R178, R179) -/

/-- What an access is for, and so whose it is (R178, R179). -/
inductive Purpose where
  | centreWord (p : Pen) (second : Bool)
  | pageState (p : Pen)
  | recordWord (p : Pen) (k : Nat)
  | headerWord (p : Pen) (k : Nat)
  | menuLoad (h : Head)
  | writeBack (h : Head) (i : Nat) (v : Bool)
  | slotState (slot : SlotNo)
  | slotWord
  | taken (kind : Word)
  | fenceWord
  | contextWord
  | snapshotWord
  | resultWord (k : Nat)
  deriving DecidableEq, Repr

/-- Whether an access's outcome still counts at its requester. -/
inductive Delivery where
  /-- Its outcome is delivered to its requester, which goes on with it (R178). -/
  | live
  /-- Its requester has ended its work: the access completes and starts nothing more (R132, R162, R168). -/
  | ended
  /-- A soft reset was taken: its result is delivered to no block (R169). -/
  | dropped
  deriving DecidableEq, Repr

/-- A shared-memory access: a read, or a write of a word. -/
structure Access where
  purpose : Purpose
  addr : Nat
  /-- The word written; none for a read. -/
  data : Option Word
  delivery : Delivery
  deriving DecidableEq, Repr

/-! ## Register window (R165 to R169) -/

/-- A set of the four notes: the notes themselves, or their enables (R165). -/
structure Notes where
  page : Bool
  request : Bool
  fault : Bool
  lost : Bool
  deriving DecidableEq, Repr

/-- The register window. STATUS's head bits and the interrupt line are computed (R5, R166). -/
structure Regs where
  /-- CONTROL.RUN. -/
  run : Bool
  enableA : Bool
  enableB : Bool
  enables : Notes
  /-- STATUS.RESETTING. -/
  resetting : Bool
  /-- STATUS.RUNNING. -/
  running : Bool
  notes : Notes
  anchor : BitVec 14
  /-- A start waits for a stop in progress to complete (R167). -/
  startWaiting : Bool
  deriving DecidableEq, Repr

/-! ## The machine -/

/-- Why a command ends in a fault: never. The spec gives every command an effect in every state, so there is no
reason here, and no run of the model stops on one. -/
inductive Fault where
  deriving DecidableEq, Repr

/-- Why a command is refused. -/
inductive Refusal where
  /-- A row of the table that has no meaning yet. Raised by `exec` alone, and safe. No arm raises it in this model. -/
  | notModelled (mnemonic : String)
  deriving DecidableEq, Repr

/-- The JF-320, and the commands that wait for it, first in first out. -/
structure State where
  heads : PerHead HeadRx
  ctx : PerHead CtxStore
  menus : PerHead MenuUnit
  pens : PerPen PenChannel
  reports : PerPen ReportPath
  engine : Engine
  /-- The memory port: the access in flight (R178). -/
  port : Option Access
  regs : Regs
  /-- The MODEL's own: the commands that are waiting. -/
  pending : List Instr
  deriving DecidableEq, Repr

/-! ## Reset values -/

/-- A head receiver after reset (R18). -/
def HeadRx.reset : HeadRx where
  state := .off
  aligned := false
  silence := 0
  item := []
  step := 0
  saturated := false
  frame := 0
  windowCount := 0
  linkTimer := 0
  hold := false
  holdPending := false
  waitingSlot := none
  history := []
  overwritten := false
  forward := none
  reverse := none
  linkErrors := 0
  linkLosses := 0
  overlaps := 0

/-- An INVALID context slot, which has no contents that the part uses (R55). -/
def CtxSlot.invalid : CtxSlot := { state := .invalid, words := [] }

/-- A context store after reset (R71). -/
def CtxStore.reset : CtxStore :=
  { slotA := .invalid, slotB := .invalid, active := .A, switchPending := none }

/-- A menu unit after reset (R129). -/
def MenuUnit.reset : MenuUnit :=
  { table := [], current := none, staging := [], stack := [], load := none, dirty := [] }

/-- The window state as a window opens it, and after reset (R72, R95). -/
def WindowState.opened : WindowState :=
  { table := [], idle := 0, crowded := false, nextArrival := 1 }

/-- The arm options after reset (R25). -/
def ArmOptions.reset : ArmOptions :=
  { head := .A, mode := .pick, single := false, gated := false, block := none, view := 0 }

/-- The tracking state after reset (R130). -/
def Tracking.reset : Tracking where
  fix := .noFix
  fence := none
  cx := 0
  cy := 0
  rx := 0
  ry := 0
  sumX := 0
  nX := 0
  sumY := 0
  nY := 0
  miss := 0
  lastArm := none
  centre := .idle
  second := false

/-- Pen counters after reset (R36). -/
def PenCounters.reset : PenCounters where
  hits := 0
  ignored := 0
  unmatched := 0
  foreign := 0
  filtered := 0
  crowded := 0
  empty := 0
  menuBusy := 0

/-- A pen channel after reset (R37). Its tip state reads what the tip-switch line shows. -/
def PenChannel.reset (tipClosed : Bool) : PenChannel where
  tipClosed := tipClosed
  state := .disarmed
  opts := .reset
  delay := 0
  deadMark := none
  heldMark := false
  window := .opened
  run := none
  lockout := none
  track := .reset
  calib := none
  lastUnmatched := none
  counters := .reset

/-- A report path after reset, with the lost count that the reset leaves (R152, R162). -/
def ReportPath.reset (lost : Counter) : ReportPath where
  pages := none
  out := .none
  current := .p0
  fill := 0
  queue := []
  mark := none
  pendingPages := none
  lost := lost
  seq := 0
  lostRecord := none
  recordWord := 0
  turnStep := 0
  reread := false

/-- The request engine after reset (R169). -/
def Engine.reset : Engine where
  scanPending := false
  lastServed := 7
  scan := none
  work := .none
  results := []
  resultStep := 0
  outstanding := []

/-- No note. -/
def Notes.none : Notes := { page := false, request := false, fault := false, lost := false }

/-- The register window after a reset that has been completed (R165). ANCHOR is kept over a soft reset. -/
def Regs.reset (anchor : BitVec 14) : Regs where
  run := false
  enableA := false
  enableB := false
  enables := .none
  resetting := false
  running := false
  notes := .none
  anchor := anchor
  startWaiting := false

/-- The machine right after a completed hardware reset. Every field is the spec's but the tip states, which follow lines
that the spec gives no level (DESIGN CHOICE: OPEN; log entry 1), and the queue of commands, which is the model's. -/
def State.reset : State where
  heads := { a := .reset, b := .reset }
  ctx := { a := .reset, b := .reset }
  menus := { a := .reset, b := .reset }
  pens := { p0 := .reset false, p1 := .reset false, p2 := .reset false, p3 := .reset false }
  reports := { p0 := .reset 0, p1 := .reset 0, p2 := .reset 0, p3 := .reset 0 }
  engine := .reset
  port := none
  regs := .reset 0
  pending := []

end Sys2Proof.Machine
end

