-- ==== Sys2Proof/Machine/Operands.lean ====
section
/-! DEFINITION. Every operand form: fields of link items, of request slots, of context blocks and of page definitions as the
part reads them; records and addresses as it writes them (R180 to R187). -/

namespace Sys2Proof.Machine

open Sys2Proof

/-! ## Repeated blocks -/

/-- The head's own. -/
def PerHead.get {α : Type} (x : PerHead α) : Head → α
  | .A => x.a
  | .B => x.b

/-- Replace the head's own. -/
def PerHead.set {α : Type} (x : PerHead α) (h : Head) (v : α) : PerHead α :=
  match h with
  | .A => { x with a := v }
  | .B => { x with b := v }

/-- The pen's own. -/
def PerPen.get {α : Type} (x : PerPen α) : Pen → α
  | .p0 => x.p0
  | .p1 => x.p1
  | .p2 => x.p2
  | .p3 => x.p3

/-- Replace the pen's own. -/
def PerPen.set {α : Type} (x : PerPen α) (p : Pen) (v : α) : PerPen α :=
  match p with
  | .p0 => { x with p0 := v }
  | .p1 => { x with p1 := v }
  | .p2 => { x with p2 := v }
  | .p3 => { x with p3 := v }

/-- The four pens, lowest number first. -/
def allPens : List Pen := [.p0, .p1, .p2, .p3]

/-- A pen's number. -/
def penNumber : Pen → Nat
  | .p0 => 0
  | .p1 => 1
  | .p2 => 2
  | .p3 => 3

/-- A head's code (R183). -/
def headNumber : Head → Nat
  | .A => 0
  | .B => 1

/-! ## Values of two words -/

/-- An address: the full 32-bit value of its two words (R180). -/
def addrOf (lo hi : Word) : Nat := (longOf lo hi).toNat

/-- The words from an address to `last` words further lie within the 22-bit word space (R180). -/
def inSpace (addr last : Nat) : Bool := decide (addr + last ≤ Config.lastAddress)

/-- The signed value of two words (R180). -/
def signedOf (lo hi : Word) : Int := (longOf lo hi).toInt

/-! ## Stroke link items (R181) -/

/-- The stroke kind in a header (R181); 3 names none. -/
def strokeKindOf (w : Word) : Option StrokeKind :=
  match bits w 11 10 with
  | 0 => some .vector
  | 1 => some .point
  | 2 => some .text
  | _ => none

/-- The stroke that the seven words of a STROKE item announce, or none where R3 discards the item. Its start step is not
stamped yet, and its effective length is L. -/
def strokeOf : List LinkWord → Option Stroke
  | [hd, nm, x0, y0, x1, y1, ln] =>
    match strokeKindOf hd.data with
    | none => none
    | some k =>
      if (hd.good && nm.good && x0.good && y0.good && x1.good && y1.good && ln.good
          && decide (x0.data.toNat ≤ Config.screenMax) && decide (y0.data.toNat ≤ Config.screenMax)
          && decide (x1.data.toNat ≤ Config.screenMax) && decide (y1.data.toNat ≤ Config.screenMax)
          && decide (1 ≤ ln.data.toNat) && decide (ln.data.toNat ≤ 4095)) then
        some
          { kind := k
            view := Fin.ofNat 4 (bits hd.data 9 8)
            tag := bits nm.data 14 4
            cls := bits nm.data 3 0
            x0 := x0.data.toNat
            y0 := y0.data.toNat
            x1 := x1.data.toNat
            y1 := y1.data.toNat
            len := ln.data.toNat
            s0 := 0
            eff := ln.data.toNat }
      else none
  | _ => none

/-! ## Request slots (R170, R183) -/

/-- The state word's codes (R170). -/
def posted : Word := 1
def takenCode : Word := 2
def doneCode : Word := 3
def failedCode : Word := 4

/-- The result codes (R173). -/
def codeOK : Word := 0
def codeBadKind : Word := 1
def codeBadArgument : Word := 2
def codeBusy : Word := 3
def codeNotLoaded : Word := 4
def codeSlotActive : Word := 5
def codeSlotPending : Word := 6
def codeNotArmed : Word := 7
def codeHeadOff : Word := 8
def codeBadContext : Word := 9
def codeBadPage : Word := 10
def codeBusError : Word := 11
def codeDisturbed : Word := 12
def codeTimeout : Word := 13
def codeRange : Word := 14
def codeAborted : Word := 15

/-- The ten request kinds (R183). -/
inductive Kind where
  | loadContext
  | switchContext
  | armPen
  | disarmPen
  | moveCross
  | calibratePen
  | setMenuPage
  | holdHead
  | releaseHead
  | readCounters
  deriving DecidableEq, Repr

/-- The kind a kind word names; any other value, 0 included, is BAD KIND (R183). -/
def kindOf (w : Word) : Option Kind :=
  match w.toNat with
  | 1 => some .loadContext
  | 2 => some .switchContext
  | 3 => some .armPen
  | 4 => some .disarmPen
  | 5 => some .moveCross
  | 6 => some .calibratePen
  | 7 => some .setMenuPage
  | 8 => some .holdHead
  | 9 => some .releaseHead
  | 10 => some .readCounters
  | _ => none

/-- Word `i` of a slot, 4–15, among the words the engine reads: word 1, then words 4–15 (R172). -/
def arg (words : List Word) (i : Nat) : Word := words[i - 3]?.getD 0

/-- The offset in the slot of the `n`-th word that the engine reads (R172): 1, then 4–15. -/
def slotOffset (n : Nat) : Nat := if n = 0 then 1 else n + 3

/-- A head code, a whole word (R183). -/
def headOf (w : Word) : Option Head :=
  if w = 0 then some .A else if w = 1 then some .B else none

/-- A context slot code, a whole word (R58, R183). -/
def slotNameOf (w : Word) : Option SlotName :=
  if w = 0 then some .A else if w = 1 then some .B else none

/-- A pen code, a whole word (R183). -/
def penOf (w : Word) : Option Pen :=
  if w = 0 then some .p0 else if w = 1 then some .p1 else if w = 2 then some .p2
  else if w = 3 then some .p3 else none

/-- What an ARM PEN asks for, after its checks (R25, R175). -/
structure ArmRequest where
  pen : Pen
  opts : ArmOptions
  /-- None keeps the pen's delay (R31). -/
  delay : Option Nat
  pages : PageAddrs
  deriving DecidableEq, Repr

/-- The two page addresses of an ARM PEN: both non-zero multiples of 4, each page within the word space, no shared word
(R175 check 3). -/
def pagesOf (words : List Word) : Option PageAddrs :=
  let a := addrOf (arg words 10) (arg words 11)
  let b := addrOf (arg words 12) (arg words 13)
  if (decide (a ≠ 0) && decide (b ≠ 0) && decide (a % 4 = 0) && decide (b % 4 = 0)
      && inSpace a 99 && inSpace b 99 && (decide (a + 100 ≤ b) || decide (b + 100 ≤ a))) then
    some { page0 := a, page1 := b }
  else none

/-- Checks 1 to 4 of R175, none where one of them gives BAD ARGUMENT. A PICK arm's block and view are not checked and not
kept (DESIGN CHOICE, log entry 6: they are consulted in TRACK mode alone). -/
def armRequestOf (words : List Word) : Option ArmRequest :=
  match penOf (arg words 4), headOf (arg words 5), pagesOf words with
  | some p, some h, some pg =>
    let mode := bits (arg words 6) 7 0
    let view := bits (arg words 6) 15 8
    let rep := (arg words 7).toNat
    let del := (arg words 9).toNat
    let block := addrOf (arg words 14) (arg words 15)
    if (decide (mode ≤ 1) && decide (rep ≤ 1) && (decide (del ≤ 255) || decide (del = 0xFFFF))
        && (decide (mode = 0) || (decide (view ≤ 3) && inSpace block 5))) then
      some
        { pen := p
          opts :=
            { head := h
              mode := if mode = 0 then .pick else .track
              single := decide (rep = 1)
              gated := (arg words 8).getLsbD 0
              block := if mode = 0 then none else some block
              view := if mode = 0 then 0 else Fin.ofNat 4 view }
          delay := if del = 0xFFFF then none else some del
          pages := pg }
    else none
  | _, _, _ => none

/-- The fence that the four words read name, or none where it is bad (R131). -/
def fenceOf : List Word → Option Fence
  | [x0, x1, y0, y1] =>
    let f : Fence := { xmin := x0.toNat, xmax := x1.toNat, ymin := y0.toNat, ymax := y1.toNat }
    if (decide (f.xmin ≤ Config.screenMax) && decide (f.xmax ≤ Config.screenMax)
        && decide (f.ymin ≤ Config.screenMax) && decide (f.ymax ≤ Config.screenMax)
        && decide (f.xmin ≤ f.xmax) && decide (f.ymin ≤ f.ymax)) then some f else none
  | _ => none

/-! ## Context blocks (R56, R60, R184) -/

/-- Word `i` of a context block as read so far. -/
def ctxWord (ws : List Word) (i : Nat) : Word := ws[i]?.getD 0

/-- The pickability bit of a tag (R184). -/
def ctxPickable (ws : List Word) (tag : Nat) : Bool := (ctxWord ws (tag / 16)).getLsbD (tag % 16)

/-- The class enable bit of a class (R184). -/
def ctxClassEnabled (ws : List Word) (cls : Nat) : Bool := (ctxWord ws 128).getLsbD cls

/-- The rank of a class (R184). -/
def ctxRank (ws : List Word) (cls : Nat) : Nat :=
  bits (ctxWord ws (129 + cls / 4)) (4 * (cls % 4) + 2) (4 * (cls % 4))

/-- The window length N. -/
def ctxN (ws : List Word) : Nat := bits (ctxWord ws 133) 4 0

/-- MIN HITS. -/
def ctxMinHits (ws : List Word) : Nat := bits (ctxWord ws 133) 11 8

/-- IDLE. -/
def ctxIdle (ws : List Word) : Nat := bits (ctxWord ws 134) 3 0

/-- The confirm frames K. -/
def ctxK (ws : List Word) : Nat := bits (ctxWord ws 134) 10 8

/-- The tracking average code. -/
def ctxAvgCode (ws : List Word) : Nat := bits (ctxWord ws 135) 2 0

/-- The tracking average A: 1, 4, 8, 16, 32 for codes 0–4 (R56). -/
def ctxAvg (ws : List Word) : Nat :=
  match ctxAvgCode ws with
  | 0 => 1
  | 1 => 4
  | 2 => 8
  | 3 => 16
  | _ => 32

/-- LOSS. -/
def ctxLoss (ws : List Word) : Nat := bits (ctxWord ws 135) 11 8

/-- The dead band. -/
def ctxDeadBand (ws : List Word) : Nat := (ctxWord ws 136).toNat

/-- The fields of one axis of a view record (R56, R96). -/
structure AxisFields where
  s0 : Nat
  g : Nat
  flip : Bool
  o : Int
  grid : Nat
  min : Int
  max : Int
  deriving DecidableEq, Repr

/-- Word `j` of view record `v` (R184). -/
def viewWord (ws : List Word) (v : View) (j : Nat) : Word := ctxWord ws (144 + 24 * v.val + j)

/-- The axis pair code of a view record (R184). -/
def viewAxisCode (ws : List Word) (v : View) : Nat := bits (viewWord ws v 2) 7 0

/-- The axis pair of a view record (R97). A VALID context holds no other code (R60). -/
def viewAxes (ws : List Word) (v : View) : AxisPair :=
  match viewAxisCode ws v with
  | 0 => .xy
  | 1 => .xz
  | _ => .yz

/-- The first-axis fields of a view record (R184). -/
def viewFirst (ws : List Word) (v : View) : AxisFields where
  s0 := (viewWord ws v 0).toNat
  g := addrOf (viewWord ws v 8) (viewWord ws v 9)
  flip := (viewWord ws v 2).getLsbD 8
  o := signedOf (viewWord ws v 4) (viewWord ws v 5)
  grid := addrOf (viewWord ws v 20) (viewWord ws v 21)
  min := signedOf (viewWord ws v 12) (viewWord ws v 13)
  max := signedOf (viewWord ws v 14) (viewWord ws v 15)

/-- The second-axis fields of a view record (R184). -/
def viewSecond (ws : List Word) (v : View) : AxisFields where
  s0 := (viewWord ws v 1).toNat
  g := addrOf (viewWord ws v 10) (viewWord ws v 11)
  flip := (viewWord ws v 2).getLsbD 9
  o := signedOf (viewWord ws v 6) (viewWord ws v 7)
  grid := addrOf (viewWord ws v 22) (viewWord ws v 23)
  min := signedOf (viewWord ws v 16) (viewWord ws v 17)
  max := signedOf (viewWord ws v 18) (viewWord ws v 19)

/-- The checks of view record `v`, each with the offset that a failure reports, in increasing order of offset (R60). -/
def viewChecks (ws : List Word) (v : View) : List (Nat × Bool) :=
  let base := 144 + 24 * v.val
  let a := viewFirst ws v
  let b := viewSecond ws v
  [ (base, decide (a.s0 ≤ Config.screenMax)),
    (base + 1, decide (b.s0 ≤ Config.screenMax)),
    (base + 2, decide (viewAxisCode ws v ≤ 2)),
    (base + 12, decide (a.min ≤ a.max)),
    (base + 16, decide (b.min ≤ b.max)),
    (base + 20, decide (a.grid ≤ 2147483647)),
    (base + 22, decide (b.grid ≤ 2147483647)) ]

/-- The checks of a context block in increasing order of word offset (R60). -/
def ctxChecks (ws : List Word) : List (Nat × Bool) :=
  [ (133, decide (1 ≤ ctxN ws ∧ ctxN ws ≤ 16)),
    (133, decide (1 ≤ ctxMinHits ws ∧ ctxMinHits ws ≤ 15)),
    (134, decide (ctxIdle ws ≤ 15)),
    (134, decide (1 ≤ ctxK ws ∧ ctxK ws ≤ 4)),
    (135, decide (ctxAvgCode ws ≤ 4)),
    (135, decide (1 ≤ ctxLoss ws ∧ ctxLoss ws ≤ 15)),
    (136, decide (ctxDeadBand ws ≤ 255)) ]
  ++ viewChecks ws 0 ++ viewChecks ws 1 ++ viewChecks ws 2 ++ viewChecks ws 3

/-- The offset of the first field out of range, if any (R60). -/
def ctxFirstBad (ws : List Word) : Option Nat :=
  ((ctxChecks ws).find? (fun c => !c.2)).map (·.1)

/-! ## Menu pages (R108, R111, R185) -/

/-- The kind a button's kind code names (R185). -/
def buttonKindOf (code : Nat) : Option ButtonKind :=
  match code with
  | 0 => some .momentary
  | 1 => some .toggle
  | 2 => some .choice
  | 3 => some .page
  | 4 => some .back
  | 5 => some .escape
  | _ => none

/-- A button kind's code (R185, R186). -/
def buttonKindCode : ButtonKind → Nat
  | .momentary => 0
  | .toggle => 1
  | .choice => 2
  | .page => 3
  | .back => 4
  | .escape => 5

/-- The button that four words of a page define, or none where its kind code names no kind (R108, R111). -/
def buttonOf (tag kind action state : Word) : Option Button :=
  (buttonKindOf (bits kind 3 0)).map fun k =>
    { tag := tag.toNat
      kind := k
      group := bits kind 6 4
      target := bits kind 12 8
      action := action
      state := decide (state ≠ 0) }

/-- The buttons of the words read, none where R111 finds a fault. `seen` are the buttons of lower index, in order. -/
def buttonsOf (seen : List Button) : List Word → Option (List Button)
  | [] => some seen
  | tag :: kind :: action :: state :: rest =>
    match buttonOf tag kind action state with
    | none => none
    | some b =>
      if (decide (1983 < b.tag) || seen.any (fun c => c.tag == b.tag)
          || (decide (b.kind = .page) && decide (16 ≤ b.target))) then none
      else buttonsOf (seen ++ [b]) rest
  | _ => none

/-! ## Records (R186) -/

/-- The axis pair's code. -/
def axisCode : AxisPair → Nat
  | .xy => 0
  | .xz => 1
  | .yz => 2
  | .none => 3

/-- The close reason's code. -/
def reasonCode : CloseReason → Nat
  | .boundary => 0
  | .release => 1
  | .idle => 2

/-- The loss cause's code. -/
def causeCode : LossCause → Nat
  | .misses => 0
  | .linkLoss => 1
  | .disable => 2

/-- The MENU status's code. -/
def statusCode : MenuStatus → Nat
  | .done => 0
  | .stackFull => 1
  | .stackEmpty => 2
  | .badPage => 3
  | .busError => 4

/-- 1 for true. -/
def bit (b : Bool) : Nat := if b then 1 else 0

/-- A natural number as a word. -/
def wordOf (n : Nat) : Word := BitVec.ofNat 16 n

/-- The flags word of a conversion (R186), with TIE, CROWDED and FINAL. -/
def flagsWord (c : Converted) (tie crowded final : Bool) : Word :=
  wordOf (bit c.clamp1 + 2 * bit c.clamp2 + 4 * bit c.grid1 + 8 * bit c.grid2
    + 16 * bit tie + 32 * bit crowded + 64 * bit final)

/-- The low word of a loft coordinate in two's complement (R180). -/
def loftLo (v : Int) : Word := loWord (BitVec.ofInt 32 v)

/-- The high word of a loft coordinate. -/
def loftHi (v : Int) : Word := hiWord (BitVec.ofInt 32 v)

/-- The twelve words of a record (R186). -/
def recordWordsOf : Record → List Word
  | .pick r =>
    [ wordOf (1 + 16 * axisCode r.loft.axes + 256 * reasonCode r.reason),
      loWord r.frame, hiWord r.frame, flagsWord r.loft r.tie r.crowded false,
      wordOf (r.tag + 4096 * r.cls), wordOf (r.view.val + 16 * r.eligible + 256 * r.hits),
      wordOf r.x, wordOf r.y,
      loftLo r.loft.first, loftHi r.loft.first, loftLo r.loft.second, loftHi r.loft.second ]
  | .menu r =>
    [ wordOf (2 + 256 * statusCode r.status), loWord r.frame, hiWord r.frame, 0,
      wordOf (r.index + 256 * buttonKindCode r.kind), wordOf (bit r.state), wordOf r.page, r.action,
      0, 0, 0, 0 ]
  | .track r =>
    [ wordOf (3 + 16 * axisCode r.loft.axes),
      loWord r.frame, hiWord r.frame, flagsWord r.loft false false r.final, 0, 0,
      wordOf r.x, wordOf r.y,
      loftLo r.loft.first, loftHi r.loft.first, loftLo r.loft.second, loftHi r.loft.second ]
  | .trackLost x y cause frame =>
    [ wordOf (4 + 256 * causeCode cause), loWord frame, hiWord frame, 0, 0, 0, wordOf x, wordOf y, 0, 0, 0, 0 ]
  | .abort reason entries frame =>
    [ wordOf (5 + 256 * causeCode reason), loWord frame, hiWord frame, 0, wordOf entries, 0, 0, 0, 0, 0, 0, 0 ]
  | .lost count => [ 6, 0, 0, 0, count, 0, 0, 0, 0, 0, 0, 0 ]

/-- Word `k` of a record. -/
def recordWordAt (r : Record) (k : Nat) : Word := (recordWordsOf r)[k]?.getD 0

/-- The address of one of a pen's pages. -/
def PageAddrs.addr (pg : PageAddrs) : PageSel → Nat
  | .p0 => pg.page0
  | .p1 => pg.page1

/-- The other page. -/
def PageSel.other : PageSel → PageSel
  | .p0 => .p1
  | .p1 => .p0

/-- The address of word `k` of record slot `r` of a page (R153). -/
def recordAddr (page r k : Nat) : Nat := page + 4 + 12 * r + k

/-! ## Anchor block (R170) -/

/-- The word address of the anchor block. -/
def anchorAddr (r : Regs) : Nat := r.anchor.toNat * 256

/-- The address of word `k` of request slot `i`. -/
def slotAddr (r : Regs) (i : SlotNo) (k : Nat) : Nat := anchorAddr r + 16 * i.val + k

/-- The address of the low word of a head's menu directory address. -/
def directoryAddr (r : Regs) (h : Head) : Nat := anchorAddr r + 128 + 2 * headNumber h

end Sys2Proof.Machine
end

