-- ==== Sys2Proof/Machine/Convert.lean ====
section
/-! DEFINITION. Screen-to-loft conversion: five stages, exact arithmetic (R96 to R106). -/

namespace Sys2Proof.Machine

open Sys2Proof

/-- The sign of the first applied to a magnitude: negative where the first is negative. -/
def withSign (d : Int) (m : Nat) : Int := if 0 ≤ d then (m : Int) else -(m : Int)

/-- Offset stage (R98). -/
def offsetStage (a : AxisFields) (pos : Nat) : Int := (pos : Int) - (a.s0 : Int)

/-- Scale stage: d × g / 65536, a half rounded away from zero (R99). -/
def scaleStage (a : AxisFields) (d : Int) : Int :=
  withSign d ((2 * d.natAbs * a.g + 65536) / 131072)

/-- Origin and flip stage (R100). -/
def originStage (a : AxisFields) (p : Int) : Int := if a.flip then a.o - p else a.o + p

/-- Grid stage: the nearest multiple of the grid step, a half away from zero (R101). -/
def gridStage (a : AxisFields) (t : Int) : Int :=
  if a.grid = 0 then t else withSign t ((2 * t.natAbs + a.grid) / (2 * a.grid) * a.grid)

/-- Clamp stage (R102). -/
def clampStage (a : AxisFields) (t : Int) : Int :=
  if t < a.min then a.min else if a.max < t then a.max else t

/-- One loft coordinate with its CLAMP and GRID flags: offset, scale, origin and flip, grid, clamp (R96). -/
def convertAxis (a : AxisFields) (pos : Nat) : Int × Bool × Bool :=
  let t := originStage a (scaleStage a (offsetStage a pos))
  let g := gridStage a t
  let c := clampStage a g
  (c, decide (g < a.min ∨ a.max < g), decide (g ≠ t))

/-- The conversion of a screen position through view record `v` of a context (R96, R97). -/
def convert (ws : List Word) (v : View) (x y : Nat) : Converted :=
  let f := convertAxis (viewFirst ws v) x
  let g := convertAxis (viewSecond ws v) y
  { axes := viewAxes ws v
    first := f.1
    second := g.1
    clamp1 := f.2.1
    clamp2 := g.2.1
    grid1 := f.2.2
    grid2 := g.2.2 }

/-- No conversion: axis pair NONE, loft words 0, flags clear (R104). -/
def Converted.absent : Converted :=
  { axes := .none, first := 0, second := 0, clamp1 := false, clamp2 := false, grid1 := false, grid2 := false }

/-- Round half up: the average of a sum over `n` items ("Conventions"; R86, R134). -/
def average (sum n : Nat) : Nat := (sum + n / 2) / n

end Sys2Proof.Machine
end

