-- ==== Sys2Proof/Machine/Flags.lean ====
section
/-! DEFINITION. Notes, the interrupt line, and what the four registers read (R165, R166, R182). -/

namespace Sys2Proof.Machine

open Sys2Proof

/-- The four notes, by name. -/
inductive Note where
  | page
  | request
  | fault
  | lost
  deriving DecidableEq, Repr

/-- Set one note. A note already set stays set (R166). -/
def Notes.raise (n : Notes) : Note → Notes
  | .page => { n with page := true }
  | .request => { n with request := true }
  | .fault => { n with fault := true }
  | .lost => { n with lost := true }

/-- A write to STATUS clears each note written with 1 and leaves the notes written with 0 (R165, R182). -/
def Notes.clear (n : Notes) (w : Word) : Notes where
  page := n.page && !w.getLsbD 8
  request := n.request && !w.getLsbD 9
  fault := n.fault && !w.getLsbD 10
  lost := n.lost && !w.getLsbD 11

/-- The note bits of a CONTROL or STATUS word (R182). -/
def notesOf (w : Word) : Notes where
  page := w.getLsbD 8
  request := w.getLsbD 9
  fault := w.getLsbD 10
  lost := w.getLsbD 11

/-- The note bits as a register reads them (R182). -/
def notesValue (n : Notes) : Nat :=
  256 * bit n.page + 512 * bit n.request + 1024 * bit n.fault + 2048 * bit n.lost

/-- The interrupt line: active while at least one note is set whose enable is 1 (R166). -/
def interrupt (s : State) : Bool :=
  let n := s.regs.notes
  let e := s.regs.enables
  (n.page && e.page) || (n.request && e.request) || (n.fault && e.fault) || (n.lost && e.lost)

/-- What CONTROL reads; SOFT RESET reads 0 (R165, R182). -/
def controlValue (s : State) : Word :=
  wordOf (bit s.regs.run + 2 * bit s.regs.enableA + 4 * bit s.regs.enableB + notesValue s.regs.enables)

/-- What STATUS reads. A head's SYNCED bit reads 1 while the head is SYNCED (R5, R165, R182). -/
def statusValue (s : State) : Word :=
  wordOf (bit s.regs.resetting + 2 * bit s.regs.running
    + 4 * bit (decide (s.heads.a.state = .synced)) + 8 * bit (decide (s.heads.b.state = .synced))
    + notesValue s.regs.notes)

/-- What a read of the register window gives, by its 2-bit address. A read changes nothing. ATTENTION reads 0 (R165, R182). -/
def registerValue (s : State) (addr : BitVec 2) : Word :=
  match addr.toNat with
  | 0 => controlValue s
  | 1 => statusValue s
  | 2 => s.regs.anchor.setWidth 16
  | _ => 0

/-- A head's enable in CONTROL. -/
def Regs.enable (r : Regs) : Head → Bool
  | .A => r.enableA
  | .B => r.enableB

/-- Write a head's enable. -/
def Regs.setEnable (r : Regs) (h : Head) (v : Bool) : Regs :=
  match h with
  | .A => { r with enableA := v }
  | .B => { r with enableB := v }

/-- RUN as the blocks see it: it rises at the moment a start is taken (R167). -/
def Regs.started (r : Regs) : Bool := r.run && r.running && !r.startWaiting

/-- A RUN stop is in progress: RUNNING still reads 1, and RUN is 0 or a start waits for the stop to complete (R167, R168). -/
def Regs.stopping (r : Regs) : Bool := r.running && (!r.run || r.startWaiting)

end Sys2Proof.Machine
end

