-- ==== Sys2Proof/Machine/Ops.lean ====
section
/-! DEFINITION. Named updates of the state's parts, notes and answers, which every meaning goes through. This block takes no
exception: what a processor's exception entry would be, a note with the interrupt line, is `State.note` (R166). -/

namespace Sys2Proof.Machine

open Sys2Proof

/-! ## Reading and updating the blocks -/

def State.head (s : State) (h : Head) : HeadRx := s.heads.get h
def State.store (s : State) (h : Head) : CtxStore := s.ctx.get h
def State.menu (s : State) (h : Head) : MenuUnit := s.menus.get h
def State.pen (s : State) (p : Pen) : PenChannel := s.pens.get p
def State.report (s : State) (p : Pen) : ReportPath := s.reports.get p

def State.setHead (s : State) (h : Head) (x : HeadRx) : State := { s with heads := s.heads.set h x }
def State.setStore (s : State) (h : Head) (x : CtxStore) : State := { s with ctx := s.ctx.set h x }
def State.setMenu (s : State) (h : Head) (x : MenuUnit) : State := { s with menus := s.menus.set h x }
def State.setPen (s : State) (p : Pen) (x : PenChannel) : State := { s with pens := s.pens.set p x }
def State.setReport (s : State) (p : Pen) (x : ReportPath) : State := { s with reports := s.reports.set p x }
def State.setEngine (s : State) (x : Engine) : State := { s with engine := x }
def State.setPort (s : State) (x : Option Access) : State := { s with port := x }
def State.setRegs (s : State) (x : Regs) : State := { s with regs := x }

/-! ## Notes and answers -/

/-- Set a note in STATUS (R166). -/
def State.note (s : State) (n : Note) : State :=
  s.setRegs { s.regs with notes := s.regs.notes.raise n }

/-- An answer to a request joins the result list (R174). -/
def State.answer (s : State) (slot : SlotNo) (code value : Word) : State :=
  s.setEngine { s.engine with results := s.engine.results ++ [{ slot := slot, code := code, value := value }] }

/-! ## Active context (R55, R57) -/

/-- The slot that a name names. -/
def CtxStore.slot (c : CtxStore) : SlotName → CtxSlot
  | .A => c.slotA
  | .B => c.slotB

/-- Replace the slot that a name names. -/
def CtxStore.setSlot (c : CtxStore) (n : SlotName) (x : CtxSlot) : CtxStore :=
  match n with
  | .A => { c with slotA := x }
  | .B => { c with slotB := x }

/-- The other slot's name: the standby slot's, of the active slot's. -/
def SlotName.other : SlotName → SlotName
  | .A => .B
  | .B => .A

/-- The words of the head's active context, or none while its active slot is not VALID (R57). -/
def State.activeCtx (s : State) (h : Head) : Option (List Word) :=
  let c := s.store h
  let x := c.slot c.active
  if x.state = .valid then some x.words else none

/-! ## Pen counters -/

/-- Change a pen's counters. -/
def State.count (s : State) (p : Pen) (f : PenCounters → PenCounters) : State :=
  s.setPen p { s.pen p with counters := f (s.pen p).counters }

def PenCounters.incHits (c : PenCounters) : PenCounters := { c with hits := satInc c.hits }
def PenCounters.incIgnored (c : PenCounters) : PenCounters := { c with ignored := satInc c.ignored }
def PenCounters.incUnmatched (c : PenCounters) : PenCounters := { c with unmatched := satInc c.unmatched }
def PenCounters.incForeign (c : PenCounters) : PenCounters := { c with foreign := satInc c.foreign }
def PenCounters.incFiltered (c : PenCounters) : PenCounters := { c with filtered := satInc c.filtered }
def PenCounters.incCrowded (c : PenCounters) : PenCounters := { c with crowded := satInc c.crowded }
def PenCounters.incEmpty (c : PenCounters) : PenCounters := { c with empty := satInc c.empty }
def PenCounters.incMenuBusy (c : PenCounters) : PenCounters := { c with menuBusy := satInc c.menuBusy }

/-- The head a pen is assigned to (R25). -/
def State.penHead (s : State) (p : Pen) : Head := (s.pen p).opts.head

/-- Do `f` for each pen assigned to head `h`, lowest number first. -/
def State.forPensOn (s : State) (h : Head) (f : State → Pen → State) : State :=
  allPens.foldl (fun t p => if t.penHead p = h then f t p else t) s

/-- The frame before frame `f`, modulo 2³² (R79, R115, R116). -/
def prevFrame (f : Long) : Long := f - 1

end Sys2Proof.Machine
end

