-- ==== Sys2Proof/Machine/Report.lean ====
section
/-! DEFINITION. The report path: staging, taking, writing, closing, stalls, flush, faults, stop (R152 to R164). -/

namespace Sys2Proof.Machine

open Sys2Proof

/-- A flush is in progress: a FLUSH mark stands (R160). -/
def ReportPath.flushing (r : ReportPath) : Bool :=
  match r.mark with
  | some m => decide (m.kind = .flush)
  | none => false

/-- The count of the close mark, 0 where none stands. -/
def ReportPath.markCount (r : ReportPath) : Nat :=
  match r.mark with
  | some m => m.count
  | none => 0

/-- `n` records of the pen are discarded: the lost count rises by `n`, saturating, and the LOST note is set (R154). -/
def State.loseRecords (s : State) (p : Pen) (n : Nat) : State :=
  let s := s.setReport p { s.report p with lost := satAdd (s.report p).lost n }
  if n = 0 then s else s.note .lost

/-- A record produced for the pen is handed to its report path (R154). -/
def State.stage (s : State) (p : Pen) (record : Record) : State :=
  let r := s.report p
  match r.out with
  | .taking | .owned | .turning =>
    if r.queue.length < Config.queueSize then s.setReport p { r with queue := r.queue ++ [record] }
    else s.loseRecords p 1
  | .stalled | .fault | .none => s.loseRecords p 1

/-- Discard and count the first `n` records of the queue. -/
def State.discardFront (s : State) (p : Pen) (n : Nat) : State :=
  let r := s.report p
  let s := s.loseRecords p (min n r.queue.length)
  s.setReport p { s.report p with queue := r.queue.drop n }

/-- Discard and count every record of the queue. -/
def State.discardQueue (s : State) (p : Pen) : State :=
  s.discardFront p (s.report p).queue.length

/-- Take new page addresses and begin TAKING at page 0 (R155). -/
def State.takePages (s : State) (p : Pen) (pg : PageAddrs) : State :=
  s.setReport p
    { s.report p with
      pages := some pg, pendingPages := none, current := .p0, mark := none, out := .taking, fill := 0,
      lostRecord := none, recordWord := 0, turnStep := 0, reread := false }

/-- The end of a flush: NONE without pending addresses, TAKING with them (R160). -/
def State.endFlush (s : State) (p : Pen) : State :=
  match (s.report p).pendingPages with
  | some pg => s.takePages p pg
  | none =>
    let s := s.discardQueue p
    s.setReport p
      { s.report p with
        out := .none, current := .p0, mark := none, fill := 0, lostRecord := none, recordWord := 0,
        turnStep := 0, reread := false }

/-- A close begins: the path is TURNING (R158), at once, while its first header write still waits for its grant (DESIGN CHOICE, log
entry 33: R158 says "from the first of these writes"). -/
def State.startClose (s : State) (p : Pen) : State :=
  s.setReport p { s.report p with out := .turning, turnStep := 0 }

/-- What an OWNED path does when a record has been written, a page has been taken or a mark has been set: go on writing,
close the page, or end a flush (R156, R157, R160). A LOST record that has been formed is always written first
(R155; for a flush with an empty flush set, log entry 9). -/
def State.ownedNext (s : State) (p : Pen) : State :=
  let r := s.report p
  match r.lostRecord with
  | some _ => s
  | none =>
    match r.mark with
    | some ⟨.flush, k⟩ =>
      if k = 0 then
        if r.fill = 0 then s.endFlush p else s.startClose p
      else if Config.pageRecords ≤ r.fill then
        let s := s.discardFront p k
        let s := s.setReport p { s.report p with mark := some ⟨.flush, 0⟩ }
        s.startClose p
      else s
    | some ⟨.boundary, k⟩ =>
      if k = 0 ∨ Config.pageRecords ≤ r.fill then s.startClose p else s
    | none =>
      if Config.pageRecords ≤ r.fill then s.startClose p else s

/-- The path comes to OWNED with an empty page; a LOST record is formed where the lost count is above 0 (R155). -/
def State.ownPage (s : State) (p : Pen) : State :=
  let r := s.report p
  let r := { r with out := .owned, fill := 0, recordWord := 0, turnStep := 0, reread := false }
  let r := if r.lost = 0 then { r with lostRecord := none } else { r with lostRecord := some r.lost, lost := 0 }
  (s.setReport p r).ownedNext p

/-- The path's needed page is not EMPTY: STALLED, with the queue discarded (R155, R158). -/
def State.stall (s : State) (p : Pen) : State :=
  let s := s.discardQueue p
  s.setReport p { s.report p with out := .stalled, mark := none, fill := 0, turnStep := 0, reread := false }

/-- The result of a state-word read in TAKING, in TURNING or in STALLED (R155, R158, R159, R160). -/
def State.pageRead (s : State) (p : Pen) (w : Word) : State :=
  let r := s.report p
  match r.out with
  | .stalled =>
    if r.flushing then s.endFlush p
    else if w = 0 then s.ownPage p
    else s.setReport p { r with reread := false }
  | .taking | .turning =>
    let r := if r.out = .turning then { r with current := r.current.other } else r
    let s := s.setReport p r
    if r.flushing then
      if w = 0 ∧ r.markCount ≠ 0 then s.ownPage p
      else (s.discardFront p r.markCount).endFlush p
    else if w = 0 then s.ownPage p
    else s.stall p
  | .owned | .fault | .none => s

/-- A record word write has completed (R156). -/
def State.recordWritten (s : State) (p : Pen) (k : Nat) : State :=
  let r := s.report p
  if k + 1 < Config.recordWords then s.setReport p { r with recordWord := k + 1 }
  else
    let r := { r with recordWord := 0, fill := r.fill + 1 }
    let r :=
      match r.lostRecord with
      | some _ => { r with lostRecord := none }
      | none =>
        { r with
          queue := r.queue.drop 1
          mark := r.mark.map (fun m => { m with count := m.count - 1 }) }
    (s.setReport p r).ownedNext p

/-- A header word write has completed: word 1, word 2, then word 0 with READY (R158, R160). -/
def State.headerWritten (s : State) (p : Pen) (k : Nat) : State :=
  let r := s.report p
  if k < 2 then s.setReport p { r with turnStep := k + 1 }
  else
    let r := { r with seq := r.seq + 1, turnStep := 3 }
    let r := if r.flushing then r else { r with mark := none }
    let s := (s.setReport p r).note .page
    if r.flushing ∧ r.markCount = 0 then s.endFlush p else s

/-- A bus error on an access of the path (R161). The FAULT note is set where the error is delivered. The current page stays as it is,
also where TURNING's read of the other page failed (DESIGN CHOICE, log entry 35: R152 gives it no meaning in FAULT). -/
def State.pageFault (s : State) (p : Pen) : State :=
  let flushing := (s.report p).flushing
  let s := s.discardQueue p
  let r := s.report p
  let r :=
    { r with
      out := .fault, mark := none, fill := 0, recordWord := 0, turnStep := 0, reread := false, lostRecord := none,
      lost := satAdd r.lost (r.lostRecord.getD 0).toNat }
  let s := s.setReport p r
  if flushing then s.endFlush p else s

/-- A window boundary of the pen's head reaches the path (R157, R159). -/
def State.reportBoundary (s : State) (p : Pen) : State :=
  let r := s.report p
  if r.flushing then s
  else
    match r.out with
    | .owned =>
      if 1 ≤ r.fill + r.queue.length then
        (s.setReport p { r with mark := some ⟨.boundary, r.queue.length⟩ }).ownedNext p
      else s
    | .stalled => s.setReport p { r with reread := true }
    | .taking | .turning | .none | .fault => s

/-- The access in flight is a live state-word read of the path. -/
def State.pageReadInFlight (s : State) (p : Pen) : Bool :=
  match s.port with
  | some a => decide (a.purpose = .pageState p) && decide (a.delivery = .live)
  | none => false

/-- A flush: the pen's use of its pages ends. `next` are the page addresses of a re-arm (R160). -/
def State.flush (s : State) (p : Pen) (next : Option PageAddrs) : State :=
  let r := s.report p
  if r.flushing then
    let s := s.loseRecords p (r.queue.length - r.markCount)
    s.setReport p { s.report p with queue := r.queue.take r.markCount, pendingPages := next }
  else
    let n := r.queue.length
    let s := s.setReport p { r with pendingPages := next }
    let marked := s.setReport p { s.report p with mark := some ⟨.flush, n⟩ }
    match r.out with
    | .owned => marked.ownedNext p
    | .taking => marked
    | .turning => if r.turnStep = 3 ∧ n = 0 ∧ ¬ s.pageReadInFlight p then s.endFlush p else marked
    | .stalled => if s.pageReadInFlight p then marked else s.endFlush p
    | .fault | .none => s.endFlush p

/-- A RUN stop at the path (R162). -/
def State.reportStop (s : State) (p : Pen) : State :=
  let s := s.discardQueue p
  let r := s.report p
  s.setReport p
    { r with
      out := .none, mark := none, pendingPages := none, current := .p0, fill := 0, recordWord := 0, turnStep := 0,
      reread := false, lostRecord := none, lost := satAdd r.lost (r.lostRecord.getD 0).toNat }

/-- The lost count that a reset leaves: the records it discards, with the count of a LOST record not fully written (R162). -/
def ReportPath.lostAtReset (r : ReportPath) : Counter :=
  satAdd (r.lostRecord.getD 0) r.queue.length

end Sys2Proof.Machine
end

