-- ==== Sys2Proof/Machine/PenOps.lean ====
section
/-! DEFINITION. What arming, disarming and stopping do to a pen channel's own parts (R26, R27, R29, R35, R72, R81, R117, R132). -/

namespace Sys2Proof.Machine

open Sys2Proof

/-- The accumulators emptied (R66, R137, R141). -/
def Tracking.dropSums (t : Tracking) : Tracking := { t with sumX := 0, nX := 0, sumY := 0, nY := 0 }

/-- NO FIX with empty accumulators, as DISARM, re-arm and RUN stop leave it, and writing to the block ended (R29, R132, R142). -/
def Tracking.rest (t : Tracking) : Tracking :=
  { t.dropSums with fix := .noFix, centre := .idle, second := false }

/-- The pen's window is discarded and opens empty (R72, R80, R81, R89). -/
def State.clearWindow (s : State) (p : Pen) : State :=
  s.setPen p { s.pen p with window := .opened }

/-- The pen's confirm run and lockout are cleared (R117). -/
def State.clearRun (s : State) (p : Pen) : State :=
  s.setPen p { s.pen p with run := none, lockout := none }

/-- A centre-write access of the pen that the port has granted completes, and starts nothing more (R132). -/
def State.endCentreAccess (s : State) (p : Pen) : State :=
  match s.port with
  | some a =>
    if (a.purpose = .centreWord p false ∨ a.purpose = .centreWord p true) ∧ a.delivery = .live then
      s.setPort (some { a with delivery := .ended })
    else s
  | none => s

/-- Drop the awaiting record of a page load, where it is for pen `p` (R124). -/
def LoadOrigin.dropAwait (o : LoadOrigin) (p : Pen) : LoadOrigin :=
  match o with
  | .setPage slot clear => .setPage slot clear
  | .pageButton w => .pageButton (w.filter (fun a => a.pen != p))
  | .backButton w => .backButton (w.filter (fun a => a.pen != p))

/-- Drop any MENU record of the pen that awaits the end of a page load on head `h` (R124). -/
def State.dropAwaitOn (s : State) (h : Head) (p : Pen) : State :=
  s.setMenu h
    { s.menu h with load := (s.menu h).load.map (fun l => { l with origin := l.origin.dropAwait p }) }

/-- Drop any MENU record of the pen that awaits the end of a page load (R27, R29, R124). -/
def State.dropAwait (s : State) (p : Pen) : State := (s.dropAwaitOn .A p).dropAwaitOn .B p

/-- What ends an arm at the pen channel, before its report path is told to flush (R27, R29, R132). -/
def State.endArm (s : State) (p : Pen) : State :=
  let s := ((s.clearWindow p).clearRun p).dropAwait p
  let s := s.endCentreAccess p
  s.setPen p { s.pen p with track := (s.pen p).track.rest }

/-- A DISARM of an ARMED pen, and a SINGLE pen's own disarm (R29, R30). -/
def State.disarm (s : State) (p : Pen) : State :=
  let s := s.endArm p
  let s := s.setPen p { s.pen p with state := .disarmed }
  s.flush p none

/-- A centre write is raised (R132). -/
def Tracking.raiseCentre (t : Tracking) : Tracking :=
  match t.centre with
  | .idle => { t with centre := .writing, second := false }
  | .writing => { t with centre := .writingAgain }
  | .writingAgain => t

/-- The tracking state that an accepted ARM sets. A TRACK arm has a fence, a PICK arm has none (R131). -/
def Tracking.armed (t : Tracking) (fence : Option Fence) : Tracking :=
  let t := { t.dropSums with fix := .noFix, fence := fence }
  match fence with
  | none => t
  | some f =>
    let x := (f.xmin + f.xmax) / 2
    let y := (f.ymin + f.ymax) / 2
    ({ t with cx := x, cy := y, rx := x, ry := y, miss := 0, lastArm := none }).raiseCentre

/-- An accepted ARM PEN at the pen channel, with the fence read for a TRACK arm (R26, R27, R31, R160). -/
def State.arm (s : State) (rq : ArmRequest) (fence : Option Fence) : State :=
  let p := rq.pen
  let s :=
    if (s.pen p).state = .armed then (s.endArm p).flush p (some rq.pages)
    else if (s.report p).flushing then
      s.setReport p { s.report p with pendingPages := some rq.pages }
    else s.takePages p rq.pages
  let c := s.pen p
  s.setPen p
    { c with
      opts := rq.opts
      delay := rq.delay.getD c.delay
      deadMark := none
      window := .opened
      run := none
      lockout := none
      heldMark := (s.head rq.opts.head).hold
      track := c.track.armed fence
      state := .armed }

/-- A RUN stop at the pen channel (R35, R132, R151). The dead-time mark goes in every pen state (R20). -/
def State.penStop (s : State) (p : Pen) : State :=
  let c := s.pen p
  s.setPen p
    { c with
      state := .disarmed, window := .opened, run := none, lockout := none, deadMark := none,
      calib := none, track := c.track.rest }

end Sys2Proof.Machine
end

