-- ==== Sys2Proof/Machine/Window.lean ====
section
/-! DEFINITION. The pick window: hits entering the candidate table, idle judgement, the decision (R72 to R95). -/

namespace Sys2Proof.Machine

open Sys2Proof

/-- The category of a matched hit (R48). -/
inductive Category where
  | drawing
  | menu
  | ownArm (arm : Nat)
  | foreign
  deriving DecidableEq, Repr

/-- A classified hit as the correlator hands it to the pen channel, with every content of R47. -/
structure ClassifiedHit where
  pen : Pen
  frame : Long
  /-- The hit step h. -/
  step : Nat
  /-- The effective step e. -/
  eff : Nat
  tag : Nat
  cls : Nat
  view : View
  kind : StrokeKind
  /-- The offset k. -/
  offset : Nat
  x : Nat
  y : Nat
  cat : Category
  /-- The head's active context slot at the moment the hit was taken. -/
  slot : SlotName
  /-- That slot's contents, under which the hit is worked to its last effect. -/
  ctx : List Word
  deriving DecidableEq, Repr

/-! ## Taking a drawing hit (R74 to R76) -/

/-- A hit added to an entry; at 255 hits the count and the sums stay (R74). -/
def Candidate.add (c : Candidate) (t : ClassifiedHit) : Candidate :=
  if c.hits < 255 then
    { c with hits := c.hits + 1, sumX := c.sumX + t.x, sumY := c.sumY + t.y, lastHit := t.frame }
  else { c with lastHit := t.frame }

/-- The entry's key is the hit's (R73). -/
def Candidate.matchesHit (t : ClassifiedHit) (c : Candidate) : Bool := c.tag == t.tag && c.view == t.view

/-- A new entry (R75). -/
def Candidate.new (t : ClassifiedHit) (arrival : Nat) : Candidate :=
  { tag := t.tag, cls := t.cls, view := t.view, hits := 1, sumX := t.x, sumY := t.y,
    arrival := arrival, lastHit := t.frame }

/-- A hit that passes the filters is entered in the table, or finds it full: then none (R74, R75). -/
def WindowState.enter (w : WindowState) (t : ClassifiedHit) : Option WindowState :=
  if w.table.any (Candidate.matchesHit t) then
    some { w with
      table := w.table.map (fun c => if c.matchesHit t then c.add t else c)
      idle := 0 }
  else if w.table.length < Config.tableSize then
    some { w with
      table := w.table ++ [Candidate.new t w.nextArrival]
      idle := 0
      nextArrival := w.nextArrival + 1 }
  else none

/-- The three filters of a drawing hit: gate, class enable, pickability (R74). -/
def drawingFiltered (c : PenChannel) (t : ClassifiedHit) : Bool :=
  (c.opts.gated && !c.tipClosed) || !ctxClassEnabled t.ctx t.cls || !ctxPickable t.ctx t.tag

/-- A DRAWING hit delivered to the candidate table (R74, R75). -/
def State.drawingHit (s : State) (t : ClassifiedHit) : State :=
  let p := t.pen
  let c := s.pen p
  if drawingFiltered c t then s.count p PenCounters.incFiltered
  else
    match c.window.enter t with
    | some w => s.setPen p { c with window := w }
    | none =>
      (s.setPen p { c with window := { c.window with crowded := true } }).count p PenCounters.incCrowded

/-! ## The decision (R84 to R89) -/

/-- The first entry is to be preferred to the second: rank, then hits, then arrival (R85). -/
def Candidate.beats (ws : List Word) (a b : Candidate) : Bool :=
  let ra := ctxRank ws a.cls
  let rb := ctxRank ws b.cls
  decide (rb < ra) || (decide (ra = rb) &&
    (decide (b.hits < a.hits) || (decide (a.hits = b.hits) && decide (a.arrival < b.arrival))))

/-- The winner among eligible entries (R85). -/
def winnerOf (ws : List Word) : List Candidate → Option Candidate
  | [] => none
  | c :: cs =>
    match winnerOf ws cs with
    | none => some c
    | some d => if d.beats ws c then some d else some c

/-- TIE: two or more eligible entries share the highest class rank, which is the winner's (R85). -/
def isTie (ws : List Word) (eligible : List Candidate) (winner : Candidate) : Bool :=
  decide (2 ≤ (eligible.filter (fun c => decide (ctxRank ws c.cls = ctxRank ws winner.cls))).length)

/-- The entries that are eligible (R84). While the active slot is not VALID there are none. -/
def eligibleOf (ctx : Option (List Word)) (w : WindowState) : List Candidate :=
  match ctx with
  | none => []
  | some ws => w.table.filter (fun c => decide (ctxMinHits ws ≤ c.hits))

/-- The PICK record of a decision with a winner (R86, R87, R88). -/
def pickRecordOf (ws : List Word) (w : WindowState) (eligible : List Candidate) (c : Candidate)
    (reason : CloseReason) (frame : Long) : PickRecord :=
  let x := average c.sumX c.hits
  let y := average c.sumY c.hits
  { tag := c.tag
    cls := c.cls
    view := c.view
    hits := c.hits
    eligible := eligible.length
    x := x
    y := y
    loft := convert ws c.view x y
    crowded := w.crowded
    tie := isTie ws eligible c
    reason := reason
    frame := frame }

/-- A decision: EMPTY is counted, or a PICK record is staged and completes a SINGLE pen; the window is cleared
(R30, R84, R88, R89). -/
def State.decision (s : State) (p : Pen) (reason : CloseReason) (frame : Long) : State :=
  let c := s.pen p
  let ctx := s.activeCtx c.opts.head
  let eligible := eligibleOf ctx c.window
  match ctx.bind (fun ws => winnerOf ws eligible) with
  | none => (s.count p PenCounters.incEmpty).clearWindow p
  | some d =>
    let record := pickRecordOf (ctx.getD []) c.window eligible d reason frame
    let s := (s.stage p (.pick record)).clearWindow p
    if c.opts.single then s.disarm p else s

/-! ## Closes (R77 to R80) -/

/-- The idle judgement of a PICK pen at a frame start that is not a boundary; `frame` is the number the signal carries (R79). -/
def State.idleJudgement (s : State) (p : Pen) (frame : Long) : State :=
  let c := s.pen p
  match s.activeCtx c.opts.head with
  | none => s
  | some ws =>
    if ctxIdle ws = 0 ∨ c.window.table = [] then s
    else if c.window.table.any (fun e => e.lastHit == prevFrame frame) then s
    else
      let n := c.window.idle + 1
      let s := s.setPen p { c with window := { c.window with idle := n } }
      if n = ctxIdle ws then s.decision p .idle frame else s

/-- A tip open at the pick window (R78). -/
def State.windowRelease (s : State) (p : Pen) : State :=
  let c := s.pen p
  if c.opts.gated ∧ c.window.table ≠ [] then s.decision p .release (s.head c.opts.head).frame else s

/-- A link loss or head disable at the pick window: an ABORT record where the table holds entries (R82). -/
def State.windowAbort (s : State) (p : Pen) (reason : LossCause) : State :=
  let c := s.pen p
  let n := c.window.table.length
  let s := if n = 0 then s else s.stage p (.abort reason n (s.head c.opts.head).frame)
  s.clearWindow p

end Sys2Proof.Machine
end

