-- ==== Sys2Proof/Machine/TrackOps.lean ====
section
/-! DEFINITION. The tracking cross: own-arm hits, averages, TRACK and TRACK LOST records, misses, release, MOVE CROSS (R130 to R143). -/

namespace Sys2Proof.Machine

open Sys2Proof

/-- Bring a value within limits (R134, R139). -/
def clampTo (lo hi v : Nat) : Nat := if v < lo then lo else if hi < v then hi else v

/-- An x coordinate brought within the fence. -/
def Tracking.fenceX (t : Tracking) (x : Nat) : Nat :=
  match t.fence with
  | some f => clampTo f.xmin f.xmax x
  | none => x

/-- A y coordinate brought within the fence. -/
def Tracking.fenceY (t : Tracking) (y : Nat) : Nat :=
  match t.fence with
  | some f => clampTo f.ymin f.ymax y
  | none => y

/-- A TRACK record at the cross centre, converted through the ARM's view, or with axis pair NONE while the active slot is
not VALID (R104, R135). -/
def State.trackRecord (s : State) (p : Pen) (final : Bool) (frame : Long) : Record :=
  let c := s.pen p
  .track
    { x := c.track.cx
      y := c.track.cy
      loft :=
        match s.activeCtx c.opts.head with
        | some ws => convert ws c.opts.view c.track.cx c.track.cy
        | none => .absent
      final := final
      frame := frame }

/-- A distance on one axis. -/
def distance (a b : Nat) : Nat := if a ≤ b then b - a else a - b

/-- The dead-band test after a completed average (R134). -/
def State.deadBandTest (s : State) (p : Pen) (ws : List Word) (frame : Long) : State :=
  let t := (s.pen p).track
  if ctxDeadBand ws < distance t.cx t.rx ∨ ctxDeadBand ws < distance t.cy t.ry then
    let s := s.stage p (s.trackRecord p false frame)
    let c := s.pen p
    s.setPen p { c with track := { c.track with rx := c.track.cx, ry := c.track.cy } }
  else s

/-- A changed centre raises a centre write (R132, R134). -/
def Tracking.moveTo (t : Tracking) (x y : Nat) : Tracking :=
  if x = t.cx ∧ y = t.cy then t else ({ t with cx := x, cy := y }).raiseCentre

/-- The x average is completed (R134). -/
def State.averageX (s : State) (p : Pen) (ws : List Word) (frame : Long) : State :=
  let c := s.pen p
  let t := c.track
  let t' := ({ t with sumX := 0, nX := 0 }).moveTo (t.fenceX (average t.sumX (ctxAvg ws))) t.cy
  (s.setPen p { c with track := t' }).deadBandTest p ws frame

/-- The y average is completed (R134). -/
def State.averageY (s : State) (p : Pen) (ws : List Word) (frame : Long) : State :=
  let c := s.pen p
  let t := c.track
  let t' := ({ t with sumY := 0, nY := 0 }).moveTo t.cx (t.fenceY (average t.sumY (ctxAvg ws)))
  (s.setPen p { c with track := t' }).deadBandTest p ws frame

/-- An OWN ARM hit delivered to a pen ARMED in TRACK mode (R133). Arms 0 and 1 feed x, arms 2 and 3 feed y (R49). -/
def State.ownArmHit (s : State) (arm : Nat) (t : ClassifiedHit) : State :=
  let p := t.pen
  let ws := t.ctx
  let c := s.pen p
  if c.opts.gated ∧ ¬ c.tipClosed then s.count p PenCounters.incFiltered
  else
    let k := { c.track with miss := 0, lastArm := some t.frame, fix := .tracking }
    if arm < 2 then
      let k := { k with sumX := k.sumX + t.x, nX := k.nX + 1 }
      let s := s.setPen p { c with track := k }
      if k.nX = ctxAvg ws then s.averageX p ws t.frame else s
    else
      let k := { k with sumY := k.sumY + t.y, nY := k.nY + 1 }
      let s := s.setPen p { c with track := k }
      if k.nY = ctxAvg ws then s.averageY p ws t.frame else s

/-- The cross is lost: a TRACK LOST record, and LOST (R137, R142). -/
def State.trackLoss (s : State) (p : Pen) (cause : LossCause) (frame : Long) : State :=
  let t := (s.pen p).track
  let s := s.stage p (.trackLost t.cx t.cy cause frame)
  let c := s.pen p
  s.setPen p { c with track := { c.track.dropSums with fix := .lost, miss := 0 } }

/-- The miss judgement at a judged frame start; `frame` is the number the signal carries (R136). -/
def State.missJudgement (s : State) (p : Pen) (frame : Long) : State :=
  let c := s.pen p
  match s.activeCtx c.opts.head with
  | none => s
  | some ws =>
    if c.track.fix ≠ .tracking then s
    else if c.track.lastArm = some (prevFrame frame) then s
    else
      let n := c.track.miss + 1
      let s := s.setPen p { c with track := { c.track with miss := n } }
      if ctxLoss ws ≤ n then s.trackLoss p .misses frame else s

/-- A tip open at the tracking state (R138). -/
def State.trackRelease (s : State) (p : Pen) : State :=
  let c := s.pen p
  if c.track.fix = .noFix then s
  else
    let s := s.stage p (s.trackRecord p true (s.head c.opts.head).frame)
    let c := s.pen p
    let s :=
      s.setPen p
        { c with
          track := { c.track.dropSums with fix := .noFix, miss := 0, rx := c.track.cx, ry := c.track.cy } }
    if c.opts.single then s.disarm p else s

/-- A link loss or head disable at the tracking state of a TRACK pen (R142). -/
def State.trackAbort (s : State) (p : Pen) (cause : LossCause) : State :=
  let c := s.pen p
  if c.track.fix = .tracking then s.trackLoss p cause (s.head c.opts.head).frame
  else s.setPen p { c with track := { c.track.dropSums with miss := 0 } }

/-- An ESCAPE confirmed for a TRACK pen (R123, R140). -/
def Tracking.escape (t : Tracking) : Tracking :=
  { t.dropSums with fix := .noFix, miss := 0, lastArm := none }

/-- An accepted MOVE CROSS (R139). -/
def Tracking.moveCross (t : Tracking) (x y : Nat) : Tracking :=
  let x := t.fenceX x
  let y := t.fenceY y
  ({ t.dropSums with
      cx := x, cy := y, rx := x, ry := y, miss := 0, lastArm := none, fix := .tracking }).raiseCentre

/-- A centre word write has completed (R132). -/
def Tracking.centreWritten (t : Tracking) (second : Bool) : Tracking :=
  if second then
    match t.centre with
    | .writingAgain => { t with centre := .writing, second := false }
    | .writing | .idle => { t with centre := .idle, second := false }
  else { t with second := true }

/-- A centre word write has returned a bus error: the pair is given up (R132). -/
def Tracking.centreFailed (t : Tracking) : Tracking :=
  match t.centre with
  | .writingAgain => { t with centre := .writing, second := false }
  | .writing | .idle => { t with centre := .idle, second := false }

end Sys2Proof.Machine
end

