-- ==== Sys2Proof/Machine/MenuOps.lean ====
section
/-! DEFINITION. The menu unit: confirmation, the six kinds, page loads, write-back (R107 to R129). -/

namespace Sys2Proof.Machine

open Sys2Proof

/-! ## Page loads (R109 to R113) -/

/-- A page load starts (R109). Its reads wait until the dirty set is empty, as the menu unit's next access says. -/
def MenuUnit.startLoad (m : MenuUnit) (page : Nat) (origin : LoadOrigin) : MenuUnit :=
  { m with load := some { page := page, origin := origin, phase := .dirLow }, staging := [] }

/-- The page stack with the stack change of a load undone (R113). -/
def undoStack (l : PageLoad) (stack : List Nat) : List Nat :=
  match l.origin with
  | .setPage _ _ => stack
  | .pageButton _ => stack.drop 1
  | .backButton _ => l.page :: stack

/-- The number of the current page; 0 where there is none, which no record meets (R121, R124). -/
def MenuUnit.pageNumber (m : MenuUnit) : Nat :=
  match m.current with
  | some c => c.number
  | none => 0

/-- The origin of a load that has ended is answered: a SET MENU PAGE's slot, or an awaiting MENU record (R112, R113, R124, R127). -/
def State.answerLoad (s : State) (h : Head) (l : PageLoad) (code : Word) (status : MenuStatus) : State :=
  match l.origin with
  | .setPage slot _ => s.answer slot code (wordOf l.page)
  | .pageButton (some a) | .backButton (some a) =>
    s.stage a.pen (.menu { a.record with page := (s.menu h).pageNumber, status := status })
  | .pageButton none | .backButton none => s

/-- A load that passes R111 completes (R112). -/
def State.loadDone (s : State) (h : Head) (l : PageLoad) (addr : Nat) (table : List Button) : State :=
  let m := s.menu h
  let stack :=
    match l.origin with
    | .setPage _ true => []
    | _ => m.stack
  let s :=
    s.setMenu h
      { m with
        table := table, current := some { number := l.page, addr := addr }, stack := stack, load := none,
        staging := [] }
  let s := s.forPensOn h (fun t p => if (t.pen p).state = .disarmed then t else t.clearRun p)
  s.answerLoad h l codeOK .done

/-- A load fails, with BAD PAGE or BUS ERROR (R113). -/
def State.loadFailed (s : State) (h : Head) (l : PageLoad) (code : Word) (status : MenuStatus) : State :=
  let m := s.menu h
  let s := s.setMenu h { m with stack := undoStack l m.stack, load := none, staging := [] }
  s.answerLoad h l code status

/-- The address of the word that a load reads next (R110). -/
def loadAddr (r : Regs) (h : Head) (l : PageLoad) (staged : Nat) : Nat :=
  match l.phase with
  | .dirLow => directoryAddr r h
  | .dirHigh _ => directoryAddr r h + 1
  | .entryLow dir => dir + 2 * l.page
  | .entryHigh dir _ => dir + 2 * l.page + 1
  | .count addr => addr
  | .buttons addr _ => addr + 1 + staged

/-- The load goes on to its next phase. -/
def State.loadPhase (s : State) (h : Head) (l : PageLoad) (ph : LoadPhase) : State :=
  s.setMenu h { s.menu h with load := some { l with phase := ph } }

/-- The word that a page load's read has given (R110, R111). -/
def State.loadRead (s : State) (h : Head) (w : Word) : State :=
  match (s.menu h).load with
  | none => s
  | some l =>
    match l.phase with
    | .dirLow => s.loadPhase h l (.dirHigh w)
    | .dirHigh lo =>
      let dir := addrOf lo w
      if inSpace dir 31 then s.loadPhase h l (.entryLow dir) else s.loadFailed h l codeBadPage .badPage
    | .entryLow dir => s.loadPhase h l (.entryHigh dir w)
    | .entryHigh _ lo =>
      let addr := addrOf lo w
      if addr ≠ 0 ∧ inSpace addr 96 then s.loadPhase h l (.count addr)
      else s.loadFailed h l codeBadPage .badPage
    | .count addr =>
      if Config.maxButtons < w.toNat then s.loadFailed h l codeBadPage .badPage
      else if w.toNat = 0 then s.loadDone h l addr []
      else s.loadPhase h l (.buttons addr w.toNat)
    | .buttons addr n =>
      let words := (s.menu h).staging ++ [w]
      if words.length < 4 * n then s.setMenu h { s.menu h with staging := words }
      else
        match buttonsOf [] words with
        | some table => s.loadDone h l addr table
        | none => s.loadFailed h l codeBadPage .badPage

/-! ## Button states and the dirty set (R119, R120, R126) -/

/-- An index joins the dirty set, lowest first, if it is not already there. -/
def insertDirty (i : Nat) : List Nat → List Nat
  | [] => [i]
  | j :: js => if i < j then i :: j :: js else if i = j then j :: js else j :: insertDirty i js

/-- The indices, counted from `i`, at which two tables' states differ. -/
def changedStates : Nat → List Button → List Button → List Nat
  | i, b :: bs, c :: cs =>
    if b.state = c.state then changedStates (i + 1) bs cs else i :: changedStates (i + 1) bs cs
  | _, _, _ => []

/-- The states after a CHOICE of button `b` in group `g`; the table's first button has index `i` (R120). -/
def chooseStates (b g : Nat) : Nat → List Button → List Button
  | _, [] => []
  | i, c :: cs =>
    (if i = b then { c with state := true }
     else if c.kind = .choice ∧ c.group = g then { c with state := false }
     else c) :: chooseStates b g (i + 1) cs

/-- The table with button `b`'s state flipped; the table's first button has index `i` (R119). -/
def toggleState (b : Nat) : Nat → List Button → List Button
  | _, [] => []
  | i, c :: cs => (if i = b then { c with state := !c.state } else c) :: toggleState b (i + 1) cs

/-- The table's states change, and every button whose state changed joins the dirty set (R119, R120). -/
def MenuUnit.retable (m : MenuUnit) (table : List Button) : MenuUnit :=
  { m with
    table := table
    dirty := (changedStates 0 m.table table).foldl (fun d i => insertDirty i d) m.dirty }

/-- The state of button `i`. -/
def MenuUnit.stateOf (m : MenuUnit) (i : Nat) : Bool :=
  match m.table[i]? with
  | some b => b.state
  | none => false

/-- A write-back of value `v` for button `i` has completed (R126): the index leaves the dirty set where the button's state equals `v`.
A state changed twice while the write was in flight equals `v` again, and the index leaves (DESIGN CHOICE, log entry 34: both of R126's
conditions hold of it). -/
def MenuUnit.writtenBack (m : MenuUnit) (i : Nat) (v : Bool) : MenuUnit :=
  if m.stateOf i = v then { m with dirty := m.dirty.filter (· != i) } else m

/-- A write-back has returned a bus error: the index leaves the set (R126). -/
def MenuUnit.writeBackFailed (m : MenuUnit) (i : Nat) : MenuUnit :=
  { m with dirty := m.dirty.filter (· != i) }

/-- A RUN stop at the menu unit (R128). -/
def MenuUnit.stop (m : MenuUnit) : MenuUnit :=
  { m with
    stack := match m.load with
      | some l => undoStack l m.stack
      | none => m.stack
    load := none
    staging := []
    dirty := [] }

/-! ## Confirmation (R115 to R124) -/

/-- The MENU record of button `b`, whose page and status are those at its production (R124). -/
def menuRecordOf (m : MenuUnit) (b : Nat) (btn : Button) (status : MenuStatus) (frame : Long) : MenuRecord :=
  { index := b, kind := btn.kind, state := m.stateOf b, page := m.pageNumber, action := btn.action,
    status := status, frame := frame }

/-- The effect of a confirmed button's kind at the menu unit, and the status of the record that is produced at once, or none
where a load starts (R119 to R123). -/
def MenuUnit.confirmed (m : MenuUnit) (p : Pen) (b : Nat) (btn : Button) (frame : Long) :
    MenuUnit × Option MenuStatus :=
  match btn.kind with
  | .momentary | .escape => (m, some .done)
  | .toggle => (m.retable (toggleState b 0 m.table), some .done)
  | .choice => (m.retable (chooseStates b btn.group 0 m.table), some .done)
  | .page =>
    if Config.stackDepth ≤ m.stack.length then (m, some .stackFull)
    else
      (({ m with stack := m.pageNumber :: m.stack }).startLoad btn.target
        (.pageButton (some { pen := p, record := menuRecordOf m b btn .done frame })), none)
  | .back =>
    match m.stack with
    | [] => (m, some .stackEmpty)
    | top :: rest =>
      (({ m with stack := rest }).startLoad top
        (.backButton (some { pen := p, record := menuRecordOf m b btn .done frame })), none)

/-- A confirmation by pen `p` of button `b` (R118). -/
def State.confirm (s : State) (p : Pen) (b : Nat) (btn : Button) (frame : Long) : State :=
  let h := s.penHead p
  let s := s.clearWindow p
  let (m, status) := (s.menu h).confirmed p b btn frame
  let s := s.setMenu h m
  let s :=
    if btn.kind = .escape ∧ (s.pen p).opts.mode = .track then
      s.setPen p { s.pen p with track := (s.pen p).track.escape }
    else s
  match status with
  | some st => s.stage p (.menu (menuRecordOf m b btn st frame))
  | none => s

/-- The confirm run after a hit on button `b` in frame `f` (R115 step 4). -/
def nextRun (run : Option ConfirmRun) (b : Nat) (f : Long) : ConfirmRun :=
  match run with
  | some r =>
    if r.button = b ∧ r.last = f then r
    else if r.button = b ∧ r.last = prevFrame f then { r with count := r.count + 1, last := f }
    else { button := b, count := 1, last := f }
  | none => { button := b, count := 1, last := f }

/-- The lockout names button `b`. -/
def lockedOn (l : Option Lockout) (b : Nat) : Bool :=
  match l with
  | some x => x.button == b
  | none => false

/-- A MENU hit delivered to an ARMED pen (R115). -/
def State.menuHit (s : State) (t : ClassifiedHit) : State :=
  let p := t.pen
  let c := s.pen p
  let m := s.menu c.opts.head
  if m.load.isSome then s.count p PenCounters.incMenuBusy
  else
    match m.table.findIdx? (fun b => b.tag == t.tag) with
    | none => s.count p PenCounters.incFiltered
    | some b =>
      match m.table[b]? with
      | none => s.count p PenCounters.incFiltered
      | some btn =>
        if lockedOn c.lockout b then s.setPen p { c with lockout := some { button := b, last := t.frame } }
        else
          let r := nextRun c.run b t.frame
          if btn.kind = .escape ∨ r.count = ctxK t.ctx then
            (s.setPen p { c with run := none, lockout := some { button := b, last := t.frame } }).confirm
              p b btn t.frame
          else s.setPen p { c with run := some r }

/-- The judgement of run and lockout at a judged frame start; `frame` is the number the signal carries (R116). Those of a CALIBRATING
pen lapse at the first judged frame, whenever they were last hit, as the last sentences of R116 and R145 say (DEDUCED, log entry 32:
the bullets of R116 would keep one last hit in the ended frame, before the calibration was accepted). -/
def State.runJudgement (s : State) (p : Pen) (frame : Long) : State :=
  let c := s.pen p
  let survives : Long → Bool := fun last => decide (c.state ≠ .calibrating) && last == prevFrame frame
  s.setPen p
    { c with
      run := c.run.filter (fun r => survives r.last)
      lockout := c.lockout.filter (fun l => survives l.last) }

end Sys2Proof.Machine
end

