-- ==== Sys2Proof/Machine/CalibOps.lean ====
section
/-! DEFINITION. Pen delay calibration: measurement, judgement, result, disturbance (R144 to R151). -/

namespace Sys2Proof.Machine

open Sys2Proof

/-- A measurement as acceptance makes it (R144, R145). -/
def Calibration.fresh (slot : SlotNo) : Calibration :=
  { slot := slot, good := 0, judged := 0, sum := 0, fwd := none, rev := none }

/-- A hit step qualifies for a target (R146). -/
def qualifies (t : Option Target) (h : Nat) : Option Measure :=
  match t with
  | some x => if x.s0 ≤ h ∧ h - x.s0 ≤ x.len + 255 then some { t := h - x.s0, len := x.len } else none
  | none => none

/-- A hit of a CALIBRATING pen (R146). -/
def Calibration.hit (c : Calibration) (fwd rev : Option Target) (h : Nat) (saturated : Bool) : Calibration :=
  if saturated then c
  else
    match qualifies rev h with
    | some m => { c with rev := c.rev.orElse (fun _ => some m) }
    | none =>
      match qualifies fwd h with
      | some m => { c with fwd := c.fwd.orElse (fun _ => some m) }
      | none => c

/-- The judgement of the frame just ended (R147). -/
def Calibration.judge (c : Calibration) : Calibration :=
  let c' := { c with judged := c.judged + 1, fwd := none, rev := none }
  match c.fwd, c.rev with
  | some f, some r =>
    if f.len = r.len then
      { c' with good := c.good + 1, sum := c.sum + (f.t : Int) + (r.t : Int) - (f.len : Int) }
    else c'
  | _, _ => c'

/-- A calibration ends: its slot is answered and the pen returns to ARMED with an empty window and empty accumulators (R150). -/
def State.endCalibration (s : State) (p : Pen) (c : Calibration) (code value : Word) : State :=
  let s := s.answer c.slot code value
  let x := s.pen p
  s.setPen p { x with state := .armed, calib := none, window := .opened, track := x.track.dropSums }

/-- The judgement and the result test at a judged frame start (R147, R148). -/
def State.calibrationJudgement (s : State) (p : Pen) : State :=
  match (s.pen p).calib with
  | none => s
  | some c0 =>
    let c := c0.judge
    if c.good = Config.goodFrames then
      let d := ((c.sum + 8) / 16).toNat
      if c.sum < 0 ∨ 255 < d then s.endCalibration p c codeRange 0
      else (s.setPen p { s.pen p with delay := d }).endCalibration p c codeOK (wordOf d)
    else if c.judged = Config.judgedFrames then s.endCalibration p c codeTimeout (wordOf c.good)
    else s.setPen p { s.pen p with calib := some c }

/-- A disturbance: a CALIBRATING pen's calibration fails with DISTURBED (R149). -/
def State.disturb (s : State) (p : Pen) : State :=
  match (s.pen p).state, (s.pen p).calib with
  | .calibrating, some c => s.endCalibration p c codeDisturbed (wordOf c.good)
  | _, _ => s

end Sys2Proof.Machine
end

