-- ==== Sys2Proof/Machine/Hits.lean ====
section
/-! DEFINITION. Pen pulses and tip changes: dead time, the ignore test, correlation, classification and delivery (R19 to R23, R38 to R54). -/

namespace Sys2Proof.Machine

open Sys2Proof

/-! ## Correlation (R39 to R46) -/

/-- The entry that could hold effective step `e`: the newest whose start step is not after it (R41). -/
def historyAt (hist : List Stroke) (e : Nat) : Option Stroke :=
  (hist.filter (fun x => decide (x.s0 ≤ e))).getLast?

/-- The stroke and offset a hit is tied to, or the reason it is not (R39 to R42). -/
def correlate (x : HeadRx) (delay h : Nat) (saturated : Bool) : Except Unmatched (Stroke × Nat) :=
  if h < delay then .error .early
  else if saturated then .error .overlong
  else
    let e := h - delay
    match historyAt x.history e with
    | none => .error (if x.overwritten then .aged else .gap)
    | some k => if k.s0 + k.eff ≤ e then .error .gap else .ok (k, e - k.s0)

/-- One axis of the interpolated position, rounded half away from zero (R46). -/
def interpolate (a b len k : Nat) : Nat :=
  let q := (2 * distance a b * k + len) / (2 * len)
  if a ≤ b then a + q else a - q

/-- The screen position of a hit matched to a stroke at offset `k` (R45, R46). -/
def positionOf (st : Stroke) (k : Nat) : Nat × Nat :=
  match st.kind with
  | .point | .text => (st.x0, st.y0)
  | .vector => (interpolate st.x0 st.x1 st.len k, interpolate st.y0 st.y1 st.len k)

/-! ## Classification (R47 to R53) -/

/-- The category by tag, class, pen and mode (R48, R49). -/
def categoryOf (tag cls pen : Nat) (mode : Mode) : Category :=
  if tag ≤ 1983 then
    if cls = 15 then .menu
    else if cls = 14 then .foreign
    else if mode = .pick then .drawing
    else .foreign
  else if tag ≤ 1999 ∧ (tag - 1984) / 4 = pen ∧ mode = .track then .ownArm ((tag - 1984) % 4)
  else .foreign

/-- The classified hit that a matched hit of pen `p` becomes under the active context `ws` (R47). -/
def State.classify (s : State) (p : Pen) (ws : List Word) (h : Nat) (frame : Long) (st : Stroke) (k : Nat) :
    ClassifiedHit where
  pen := p
  frame := frame
  step := h
  eff := h - (s.pen p).delay
  tag := st.tag
  cls := st.cls
  view := st.view
  kind := st.kind
  offset := k
  x := (positionOf st k).1
  y := (positionOf st k).2
  cat := categoryOf st.tag st.cls (penNumber p) (s.pen p).opts.mode
  slot := (s.store (s.penHead p)).active
  ctx := ws

/-- A classified hit is delivered by its category, under the context it carries (R47, R51, R52, R53). -/
def State.deliverHit (s : State) (t : ClassifiedHit) : State :=
  match t.cat with
  | .drawing => s.drawingHit t
  | .menu => s.menuHit t
  | .ownArm arm => s.ownArmHit arm t
  | .foreign => s.count t.pen PenCounters.incForeign

/-- The hit of an ARMED pen is correlated, and its result taken whole (R23, R38, R44). -/
def State.armedHit (s : State) (p : Pen) (ws : List Word) (h : Nat) (saturated : Bool) (frame : Long) : State :=
  let c := s.pen p
  match correlate (s.head c.opts.head) c.delay h saturated with
  | .error why =>
    let s := s.count p PenCounters.incUnmatched
    s.setPen p { s.pen p with lastUnmatched := some (why, frame) }
  | .ok (st, k) => s.deliverHit (s.classify p ws h frame st k)

/-! ## Pulses (R20 to R23) -/

/-- The dead-time mark drops a pulse at step `h` of frame `f` (R20). -/
def deadTimeDrops (mark : Option (Long × Nat)) (f : Long) (h : Nat) : Bool :=
  match mark with
  | some (g, k) => decide (g = f) && decide (h < k + Config.deadTime)
  | none => false

/-- A hit, after its HITS count: ignored, measured or correlated (R22, R23). -/
def State.takeHit (s : State) (p : Pen) (h : Nat) (saturated : Bool) (frame : Long) : State :=
  let c := s.pen p
  let x := s.head c.opts.head
  if c.state = .disarmed ∨ x.state ≠ .synced ∨ x.hold then s.count p PenCounters.incIgnored
  else if c.state = .calibrating then
    s.setPen p { c with calib := c.calib.map (fun k => k.hit x.forward x.reverse h saturated) }
  else
    match s.activeCtx c.opts.head with
    | none => s.count p PenCounters.incIgnored
    | some ws => s.armedHit p ws h saturated frame

/-- A pulse on the pen's pulse line (R20, R21). While RESETTING reads 1 every block is held at its reset values (R169;
log entry 5). -/
def State.pulse (s : State) (p : Pen) : State :=
  if s.regs.resetting then s
  else
    let c := s.pen p
    let x := s.head c.opts.head
    if deadTimeDrops c.deadMark x.frame x.step then s
    else
      let s := s.setPen p { c with deadMark := some (x.frame, x.step) }
      (s.count p PenCounters.incHits).takeHit p x.step x.saturated x.frame

/-! ## Tip switch (R19) -/

/-- The tip switch closes: the tip state alone changes. -/
def State.tipCloses (s : State) (p : Pen) : State :=
  s.setPen p { s.pen p with tipClosed := true }

/-- The tip switch opens: on an ARMED pen a release, at the pick window or at the tracking state (R19, R78, R138). -/
def State.tipOpens (s : State) (p : Pen) : State :=
  let s := s.setPen p { s.pen p with tipClosed := false }
  let c := s.pen p
  match c.state, c.opts.mode with
  | .armed, .pick => s.windowRelease p
  | .armed, .track => s.trackRelease p
  | .disarmed, _ | .calibrating, _ => s

end Sys2Proof.Machine
end

