-- ==== Sys2Proof/Machine/ContextOps.lean ====
section
/-! DEFINITION. The context store: loading, switching, disable and stop (R55 to R71). -/

namespace Sys2Proof.Machine

open Sys2Proof

/-- Set a context slot of head `h`. -/
def State.setCtxSlot (s : State) (h : Head) (n : SlotName) (x : CtxSlot) : State :=
  s.setStore h ((s.store h).setSlot n x)

/-- The window length N of the head's active context, 1 while its active slot is not VALID (R8). -/
def State.windowLength (s : State) (h : Head) : Nat :=
  match s.activeCtx h with
  | some ws => ctxN ws
  | none => 1

/-- What a switch does to a pen on the head (R66). -/
def State.switchPen (s : State) (p : Pen) : State :=
  let s := s.disturb p
  if (s.pen p).state = .armed then
    let s := s.clearRun p
    if (s.pen p).opts.mode = .track then
      s.setPen p { s.pen p with track := (s.pen p).track.dropSums }
    else s
  else s

/-- The result value of a switch: 0 when slot A is now active, 1 when slot B is (R65). -/
def slotNameCode : SlotName → Word
  | .A => 0
  | .B => 1

/-- A window boundary at the context store: a pending switch is carried out (R65). -/
def State.boundarySwitch (s : State) (h : Head) : State :=
  match (s.store h).switchPending with
  | none => s
  | some slot =>
    let now := (s.store h).active.other
    let s := s.setStore h { s.store h with active := now, switchPending := none }
    (s.forPensOn h State.switchPen).answer slot codeOK (slotNameCode now)

/-- A head disable by the enable bit at the context store (R68). -/
def State.abortSwitch (s : State) (h : Head) : State :=
  match (s.store h).switchPending with
  | none => s
  | some slot => (s.setStore h { s.store h with switchPending := none }).answer slot codeAborted 0

/-- A LOADING slot becomes INVALID at a RUN stop (R69). -/
def CtxSlot.stop (x : CtxSlot) : CtxSlot := if x.state = .loading then .invalid else x

/-- A RUN stop at the context store (R69). -/
def CtxStore.stop (c : CtxStore) : CtxStore :=
  { c with slotA := c.slotA.stop, slotB := c.slotB.stop, switchPending := none }

end Sys2Proof.Machine
end

