-- ==== Sys2Proof/Machine/HeadOps.lean ====
section
/-! DEFINITION. The head receiver: words and items, frames, strokes, hold, loss and disable, with what it signals (R1 to R18, R32 to R34). -/

namespace Sys2Proof.Machine

open Sys2Proof

/-! ## The receiver's own state -/

/-- Entry to SEEKING (R5). The frame number, counters, hold flag and hold-pending flag keep their values. -/
def HeadRx.seek (x : HeadRx) : HeadRx :=
  { x with
    state := .seeking, aligned := false, silence := 0, item := [], step := 0, saturated := false,
    history := [], overwritten := false, forward := none, reverse := none }

/-- A head disable at the receiver (R12). Timer and alignment flag are held as they are (R1); an item being assembled is
dropped without a count (R3). -/
def HeadRx.disable (x : HeadRx) : HeadRx :=
  { x with
    state := .off, item := [], step := 0, saturated := false, history := [], overwritten := false,
    forward := none, reverse := none, windowCount := 0, hold := false, holdPending := false, waitingSlot := none }

/-- A step pulse (R4). -/
def HeadRx.stepped (x : HeadRx) : HeadRx :=
  if x.state = .synced then
    if x.step < Config.stepMax then
      { x with step := x.step + 1, saturated := x.saturated || decide (x.step + 1 = Config.stepMax) }
    else x
  else x

/-- The silence timer has reached its limit (R1, R3). -/
def HeadRx.silent (x : HeadRx) : HeadRx :=
  if x.state = .off then x
  else
    { x with
      silence := Config.silenceLimit, aligned := true, item := []
      linkErrors := if x.item = [] then x.linkErrors else satInc x.linkErrors }

/-- The history and the overlap counter after the overlap check of a new start step (R14). -/
def cutNewest (hist : List Stroke) (s0 : Nat) : List Stroke × Bool :=
  match hist.getLast? with
  | none => (hist, false)
  | some n =>
    if s0 < n.s0 + n.eff then
      if s0 - n.s0 = 0 then (hist.dropLast, true)
      else (hist.dropLast ++ [{ n with eff := s0 - n.s0 }], true)
    else (hist, false)

/-- An accepted STROKE item in SYNCED: stamped and entered, after the overlap and capacity checks (R13 to R16). -/
def HeadRx.enterStroke (x : HeadRx) (st : Stroke) : HeadRx :=
  if x.saturated then x
  else
    let st := { st with s0 := x.step, eff := st.len }
    let (hist, cut) := cutNewest x.history x.step
    let full := decide (Config.historySize ≤ hist.length)
    let target : Target := { s0 := x.step, len := st.len }
    { x with
      history := (if full then hist.drop 1 else hist) ++ [st]
      overwritten := x.overwritten || full
      overlaps := if cut then satInc x.overlaps else x.overlaps
      forward := if st.tag = 2000 then some target else x.forward
      reverse := if st.tag = 2001 then some target else x.reverse }

/-- A pending hold or release is applied (R7 step 6). -/
def HeadRx.applyPending (x : HeadRx) : HeadRx :=
  if x.holdPending then { x with hold := !x.hold, holdPending := false, waitingSlot := none } else x

/-- Steps 1 to 5 of R7, with the window length N. -/
def HeadRx.advance (x : HeadRx) (n : Nat) : HeadRx :=
  { x with
    step := 0, saturated := false, history := [], overwritten := false, forward := none, reverse := none,
    frame := x.frame + 1, linkTimer := 0
    windowCount :=
      if x.hold then x.windowCount else if x.windowCount + 1 = n then 0 else x.windowCount + 1 }

/-- Whether the frame start is a boundary (R7 step 5, R8). -/
def HeadRx.atBoundary (x : HeadRx) (n : Nat) : Bool := !x.hold && decide (x.windowCount + 1 = n)

/-- The synchronising frame start at the receiver (R6), before a pending hold or release. Like every accepted FRAME START it
leaves the history and the target record empty (R13, R15, R16). -/
def HeadRx.synchronise (x : HeadRx) : HeadRx :=
  { x with
    state := .synced, linkTimer := 0, step := 0, saturated := false, history := [], overwritten := false,
    forward := none, reverse := none, frame := x.frame + 1, windowCount := 0 }

/-! ## The frame-start signal at the pens (R32, R33) -/

/-- Frame-end judgements of a pen (R32 step 1). -/
def State.judgePen (s : State) (p : Pen) (frame : Long) (boundary : Bool) : State :=
  let c := s.pen p
  let s := if c.state = .armed ∧ c.opts.mode = .pick ∧ ¬ boundary then s.idleJudgement p frame else s
  let s := s.runJudgement p frame
  let s := if c.state = .armed ∧ c.opts.mode = .track then s.missJudgement p frame else s
  if c.state = .calibrating then s.calibrationJudgement p else s

/-- The boundary close of a pen (R32 step 2, R77). -/
def State.closeAtBoundary (s : State) (p : Pen) (frame : Long) : State :=
  let c := s.pen p
  if c.state = .armed ∧ c.opts.mode = .pick then s.decision p .boundary frame else s

/-- The held-frame mark takes the signal's held indication; a hold that takes effect disturbs a calibration (R32 step 3, R33). -/
def State.markHeld (s : State) (p : Pen) (held : Bool) : State :=
  let was := (s.pen p).heldMark
  let s := s.setPen p { s.pen p with heldMark := held }
  if held ∧ ¬ was then s.disturb p else s

/-- The frame-start signal at a pen channel and then, for a boundary, at its report path (R32, R89, R157). A pen that was not DISARMED
as the signal came takes all three steps, a SINGLE pen that step 1 or 2 disarms included. -/
def State.signalPen (frame : Long) (boundary held sync : Bool) (s : State) (p : Pen) : State :=
  let c := s.pen p
  let s :=
    if c.state = .disarmed then s
    else
      let s := if ¬ c.heldMark ∧ ¬ sync then s.judgePen p frame boundary else s
      let s := if boundary then s.closeAtBoundary p frame else s
      s.markHeld p held
  if boundary then s.reportBoundary p else s

/-- What a frame start does after the receiver's own steps 1 to 5: the pending change with its slot, the signal, a pending
switch at a boundary, and the scan event (R6, R7, R65, R171). -/
def State.frameSignal (s : State) (h : Head) (boundary sync : Bool) : State :=
  let x := s.head h
  let s := s.setHead h x.applyPending
  let s :=
    match x.holdPending, x.waitingSlot with
    | true, some slot => s.answer slot codeOK 0
    | _, _ => s
  let s := s.forPensOn h (State.signalPen x.frame boundary (s.head h).hold sync)
  let s := if boundary then s.boundarySwitch h else s
  s.setEngine { s.engine with scanPending := true }

/-- A FRAME START accepted in SYNCED (R7, R8). -/
def State.frameStart (s : State) (h : Head) : State :=
  let x := s.head h
  let n := s.windowLength h
  (s.setHead h (x.advance n)).frameSignal h (x.atBoundary n) false

/-- The synchronising frame start (R6). -/
def State.syncFrameStart (s : State) (h : Head) : State :=
  (s.setHead h (s.head h).synchronise).frameSignal h true true

/-! ## Words and items (R1 to R3) -/

/-- A link error is counted on head `h` (R3). -/
def HeadRx.linkError (x : HeadRx) : HeadRx := { x with linkErrors := satInc x.linkErrors }

/-- A header word, taken while aligned with no item begun (R2). The silence timer has been restarted. -/
def State.headerTaken (s : State) (h : Head) (w : Word) (parity : Bool) : State :=
  let x := s.head h
  if goodParity w parity ∧ headerType w = 1 then
    if x.state = .synced then s.frameStart h else s.syncFrameStart h
  else if goodParity w parity ∧ headerType w = 2 then
    s.setHead h { x with item := [{ data := w, good := true }] }
  else s.setHead h { x.linkError with aligned := false }

/-- The seventh word of a STROKE item: the item is discarded or accepted (R2, R3, R6, R13). -/
def State.itemTaken (s : State) (h : Head) (item : List LinkWord) : State :=
  let x := { s.head h with item := [] }
  match strokeOf item with
  | none => s.setHead h x.linkError
  | some st => s.setHead h (if x.state = .synced then x.enterStroke st else x)

/-- A rising edge of the word strobe of head `h` (R1, R2). -/
def State.strobe (s : State) (h : Head) (w : Word) (parity : Bool) : State :=
  let x := s.head h
  if x.state = .off then s
  else
    let s := s.setHead h { x with silence := 0 }
    if ¬ x.aligned then s
    else if x.item = [] then s.headerTaken h w parity
    else
      let item := x.item ++ [{ data := w, good := goodParity w parity }]
      if item.length < 7 then s.setHead h { s.head h with item := item }
      else s.itemTaken h item

/-! ## Link loss and head disable (R11, R12, R34) -/

/-- A link loss or a head disable by the enable bit, at a pen on the head (R20, R34). -/
def State.penLoss (cause : LossCause) (s : State) (p : Pen) : State :=
  let s := s.disturb p
  let s := s.setPen p { s.pen p with deadMark := none }
  if (s.pen p).state = .disarmed then s
  else
    let s := s.windowAbort p cause
    let s := s.clearRun p
    if (s.pen p).opts.mode = .track then s.trackAbort p cause else s

/-- The link timer of a SYNCED head has reached its limit (R11). -/
def State.loseLink (s : State) (h : Head) : State :=
  let x := s.head h
  if x.state = .synced then
    let s := s.setHead h { x.seek with linkTimer := Config.linkTimeout, linkLosses := satInc x.linkLosses }
    (s.note .fault).forPensOn h (State.penLoss .linkLoss)
  else s

/-- A head disable by the head's enable bit (R12, R34, R68). A waiting HOLD is answered FAILED ABORTED, a waiting RELEASE DONE. -/
def State.disableHead (s : State) (h : Head) : State :=
  let x := s.head h
  if x.state = .off then s
  else
    let s := s.setHead h x.disable
    let s :=
      match x.holdPending, x.waitingSlot with
      | true, some slot => if x.hold then s.answer slot codeOK 0 else s.answer slot codeAborted 0
      | _, _ => s
    (s.forPensOn h (State.penLoss .disable)).abortSwitch h

/-- A head leaves OFF for SEEKING (R5). -/
def State.enableHead (s : State) (h : Head) : State :=
  let x := s.head h
  if x.state = .off then s.setHead h x.seek else s

/-! ## Hold and release (R9, R10) -/

/-- A HOLD HEAD handed to a head (R9, R176). -/
def State.holdRequest (s : State) (h : Head) (slot : SlotNo) : State :=
  let x := s.head h
  if x.state = .off then s.answer slot codeHeadOff 0
  else
    match x.hold, x.holdPending with
    | false, false => s.setHead h { x with holdPending := true, waitingSlot := some slot }
    | false, true => s.answer slot codeBusy 0
    | true, false => s.answer slot codeOK 0
    | true, true =>
      let s := s.setHead h { x with holdPending := false, waitingSlot := none }
      let s :=
        match x.waitingSlot with
        | some w => s.answer w codeAborted 0
        | none => s
      s.answer slot codeOK 0

/-- A RELEASE HEAD handed to a head (R10, R176). -/
def State.releaseRequest (s : State) (h : Head) (slot : SlotNo) : State :=
  let x := s.head h
  match x.hold, x.holdPending with
  | true, false => s.setHead h { x with holdPending := true, waitingSlot := some slot }
  | true, true => s.answer slot codeBusy 0
  | false, true =>
    let s := s.setHead h { x with holdPending := false, waitingSlot := none }
    let s :=
      match x.waitingSlot with
      | some w => s.answer w codeAborted 0
      | none => s
    s.answer slot codeOK 0
  | false, false => s.answer slot codeOK 0

/-! ## The reference clock (R1, R11) -/

/-- One reference period at a head: the silence timer and, in SYNCED, the link timer count, and a timer that reaches its limit
acts. Where both reach it in one period the silence timer acts first, so that a partial item is counted before the link is lost
(DESIGN CHOICE, log entry 31: R1 and R11 give no order). -/
def State.tickHead (s : State) (h : Head) : State :=
  let x := s.head h
  if x.state = .off then s
  else
    let x :=
      if x.silence + 1 = Config.silenceLimit then x.silent
      else if x.silence < Config.silenceLimit then { x with silence := x.silence + 1 }
      else x
    if x.state = .synced then
      if x.linkTimer + 1 < Config.linkTimeout then s.setHead h { x with linkTimer := x.linkTimer + 1 }
      else (s.setHead h x).loseLink h
    else s.setHead h x

end Sys2Proof.Machine
end

