-- ==== Sys2Proof/Machine/EngineOps.lean ====
section
/-! DEFINITION. The request engine: scans, taking a slot, the ten requests, results, the counter snapshot (R170 to R177, R187). -/

namespace Sys2Proof.Machine

open Sys2Proof

/-! ## Scans and results (R171, R172, R174) -/

/-- The engine is done with the slot it was dealing with: its scan goes on to the next state word, or ends after the eighth (R172). -/
def Engine.passOn (e : Engine) : Engine :=
  { e with
    work := .none
    scan :=
      match e.scan with
      | some q => if q.seen + 1 < 8 then some { q with seen := q.seen + 1 } else none
      | none => none }

/-- The scan goes on. -/
def State.passOn (s : State) : State := s.setEngine s.engine.passOn

/-- The engine answers the request it is serving, and its scan goes on (R172, R174). -/
def State.reply (s : State) (slot : SlotNo) (code value : Word) : State :=
  (s.answer slot code value).passOn

/-- The engine's work with the slot it took. -/
def State.work (s : State) (w : Work) : State := s.setEngine { s.engine with work := w }

/-- The slot whose state word a scan reads next: slots s + 1 to s + 8 modulo 8 (R172). -/
def ScanPos.slot (q : ScanPos) : SlotNo := q.base + 1 + Fin.ofNat 8 q.seen

/-- A scan begins where the scan-pending flag is set, RUNNING reads 1 and none is in progress (R171, R172). RUNNING reads 1 during a stop
too, where ATTENTION can set the flag while a start waits; the end of the stop abandons the scan so begun (State.finishStop). -/
def State.beginScan (s : State) : State :=
  let e := s.engine
  if e.scanPending ∧ s.regs.running ∧ e.scan = none then
    s.setEngine { e with scanPending := false, scan := some { base := e.lastServed, seen := 0 } }
  else s

/-- A state word has been read (R172). -/
def State.stateWordRead (s : State) (slot : SlotNo) (w : Word) : State :=
  if w = posted ∧ slot ∉ s.engine.outstanding then s.work (.reading slot [])
  else s.passOn

/-- A kind or argument word of a slot has been read (R172 steps 1 and 2). -/
def State.slotWordRead (s : State) (w : Word) : State :=
  match s.engine.work with
  | .reading slot ws =>
    let ws := ws ++ [w]
    if ws.length < 13 then s.work (.reading slot ws) else s.work (.taking slot ws)
  | _ => s

/-- The TAKEN write has completed: the slot joins the outstanding set and becomes the last-served slot (R172 step 2). -/
def State.joinOutstanding (s : State) (slot : SlotNo) : State :=
  s.setEngine
    { s.engine with outstanding := s.engine.outstanding ++ [slot], lastServed := slot, work := .none }

/-- The front result leaves the list, and its slot the outstanding set (R174). -/
def Engine.dropResult (e : Engine) : Engine :=
  match e.results with
  | [] => e
  | r :: rs =>
    { e with results := rs, resultStep := 0, outstanding := e.outstanding.filter (· != r.slot) }

/-- A result word's write has completed (R174). -/
def State.resultWritten (s : State) (k : Nat) : State :=
  if k < 2 then s.setEngine { s.engine with resultStep := k + 1 }
  else (s.setEngine s.engine.dropResult).note .request

/-! ## The ten requests (R58, R64, R127, R139, R145, R173 to R177) -/

/-- LOAD CONTEXT is checked, and accepted or refused (R58, R59). -/
def State.doLoadContext (s : State) (slot : SlotNo) (ws : List Word) : State :=
  match headOf (arg ws 4), slotNameOf (arg ws 5) with
  | some h, some c =>
    let addr := addrOf (arg ws 6) (arg ws 7)
    let x := s.store h
    if ¬ inSpace addr 255 then s.reply slot codeBadArgument 0
    else if c = x.active ∧ (x.slot c).state = .valid then s.reply slot codeSlotActive 0
    else if x.switchPending.isSome ∧ c ≠ x.active then s.reply slot codeSlotPending 0
    else (s.setCtxSlot h c { state := .loading, words := [] }).work (.loading slot h c addr 0)
  | _, _ => s.reply slot codeBadArgument 0

/-- SWITCH CONTEXT (R64). -/
def State.doSwitchContext (s : State) (slot : SlotNo) (ws : List Word) : State :=
  match headOf (arg ws 4) with
  | some h =>
    let x := s.store h
    if x.switchPending.isSome then s.reply slot codeBusy 0
    else if (x.slot x.active.other).state ≠ .valid then s.reply slot codeNotLoaded 0
    else (s.setStore h { x with switchPending := some slot }).passOn
  | none => s.reply slot codeBadArgument 0

/-- ARM PEN (R175). A PICK arm is handed over at once; a TRACK arm has its fence read first. -/
def State.doArmPen (s : State) (slot : SlotNo) (ws : List Word) : State :=
  match armRequestOf ws with
  | none => s.reply slot codeBadArgument 0
  | some rq =>
    if (s.pen rq.pen).state = .calibrating then s.reply slot codeBusy 0
    else
      match rq.opts.mode with
      | .pick => (s.arm rq none).reply slot codeOK 0
      | .track => s.work (.fencing slot ws [])

/-- DISARM PEN (R29): a CALIBRATING pen's calibration fails with DISTURBED first. -/
def State.doDisarmPen (s : State) (slot : SlotNo) (ws : List Word) : State :=
  match penOf (arg ws 4) with
  | none => s.reply slot codeBadArgument 0
  | some p =>
    let s := s.disturb p
    let s := if (s.pen p).state = .armed then s.disarm p else s
    s.reply slot codeOK 0

/-- MOVE CROSS (R139). -/
def State.doMoveCross (s : State) (slot : SlotNo) (ws : List Word) : State :=
  let x := (arg ws 5).toNat
  let y := (arg ws 6).toNat
  match penOf (arg ws 4) with
  | none => s.reply slot codeBadArgument 0
  | some p =>
    if Config.screenMax < x ∨ Config.screenMax < y then s.reply slot codeBadArgument 0
    else
      let c := s.pen p
      match c.state, c.opts.mode with
      | .calibrating, _ => s.reply slot codeBusy 0
      | .disarmed, _ | .armed, .pick => s.reply slot codeNotArmed 0
      | .armed, .track => (s.setPen p { c with track := c.track.moveCross x y }).reply slot codeOK 0

/-- Another pen assigned to the pen's head is CALIBRATING (R145 check 5). -/
def State.headCalibrating (s : State) (p : Pen) : Bool :=
  allPens.any (fun q => q != p && decide (s.penHead q = s.penHead p) && decide ((s.pen q).state = .calibrating))

/-- CALIBRATE PEN (R145). -/
def State.doCalibratePen (s : State) (slot : SlotNo) (ws : List Word) : State :=
  match penOf (arg ws 4) with
  | none => s.reply slot codeBadArgument 0
  | some p =>
    let c := s.pen p
    let x := s.head c.opts.head
    if c.state = .disarmed then s.reply slot codeNotArmed 0
    else if c.state = .calibrating then s.reply slot codeBusy 0
    else if x.state ≠ .synced ∨ x.hold then s.reply slot codeHeadOff 0
    else if s.headCalibrating p then s.reply slot codeBusy 0
    else
      (s.setPen p { c with window := .opened, calib := some (.fresh slot), state := .calibrating }).passOn

/-- SET MENU PAGE (R127). -/
def State.doSetMenuPage (s : State) (slot : SlotNo) (ws : List Word) : State :=
  let action := (arg ws 6).toNat
  match headOf (arg ws 4) with
  | none => s.reply slot codeBadArgument 0
  | some h =>
    if 1 < action then s.reply slot codeBadArgument 0
    else if 16 ≤ (arg ws 5).toNat then s.reply slot codeBadPage (arg ws 5)
    else if (s.menu h).load.isSome then s.reply slot codeBusy 0
    else
      (s.setMenu h
        ((s.menu h).startLoad (arg ws 5).toNat (.setPage slot (decide (action = 1))))).passOn

/-- HOLD HEAD (R9, R176). -/
def State.doHoldHead (s : State) (slot : SlotNo) (ws : List Word) : State :=
  match headOf (arg ws 4) with
  | none => s.reply slot codeBadArgument 0
  | some h => (s.holdRequest h slot).passOn

/-- RELEASE HEAD (R10, R176). -/
def State.doReleaseHead (s : State) (slot : SlotNo) (ws : List Word) : State :=
  match headOf (arg ws 4) with
  | none => s.reply slot codeBadArgument 0
  | some h => (s.releaseRequest h slot).passOn

/-- READ COUNTERS (R177). -/
def State.doReadCounters (s : State) (slot : SlotNo) (ws : List Word) : State :=
  let addr := addrOf (arg ws 4) (arg ws 5)
  if ¬ inSpace addr 63 then s.reply slot codeBadArgument 0
  else s.work (.snapshot slot addr ((arg ws 6).getLsbD 0) 0 0)

/-- A kind that names no request kind (R173). -/
def State.doBadKind (s : State) (slot : SlotNo) : State := s.reply slot codeBadKind 0

/-! ## Reads and writes of a busy engine (R59 to R62, R175, R177) -/

/-- A fence word has been read; after the fourth the fence is checked and the ARM handed over (R131, R175). -/
def State.fenceWordRead (s : State) (w : Word) : State :=
  match s.engine.work with
  | .fencing slot ws fence =>
    let fence := fence ++ [w]
    if fence.length < 4 then s.work (.fencing slot ws fence)
    else
      match armRequestOf ws, fenceOf fence with
      | some rq, some f => (s.arm rq (some f)).reply slot codeOK 0
      | _, _ => s.reply slot codeBadArgument 0
  | _ => s

/-- A fence read has returned a bus error: the value is the word's offset in the block, 2–5 (R175). -/
def State.fenceFailed (s : State) : State :=
  match s.engine.work with
  | .fencing slot _ fence => s.reply slot codeBusError (wordOf (2 + fence.length))
  | _ => s

/-- A context block word has been read; after the last the fields are checked (R59, R60, R61). -/
def State.contextWordRead (s : State) (w : Word) : State :=
  match s.engine.work with
  | .loading slot h c addr k =>
    let words := ((s.store h).slot c).words ++ [w]
    if k + 1 < Config.contextWords then
      (s.setCtxSlot h c { state := .loading, words := words }).work (.loading slot h c addr (k + 1))
    else
      match ctxFirstBad words with
      | none => (s.setCtxSlot h c { state := .valid, words := words }).reply slot codeOK 0
      | some o => (s.setCtxSlot h c .invalid).reply slot codeBadContext (wordOf o)
  | _ => s

/-- A context block read has returned a bus error (R62). -/
def State.contextFailed (s : State) : State :=
  match s.engine.work with
  | .loading slot h c _ k => (s.setCtxSlot h c .invalid).reply slot codeBusError (wordOf k)
  | _ => s

/-- A snapshot word's write has completed (R177). -/
def State.snapshotWritten (s : State) : State :=
  match s.engine.work with
  | .snapshot slot addr clear k hi =>
    if k + 1 < Config.snapshotWords then s.work (.snapshot slot addr clear (k + 1) hi)
    else s.reply slot codeOK 0
  | _ => s

/-- A snapshot word's write has returned a bus error (R177). -/
def State.snapshotFailed (s : State) : State :=
  match s.engine.work with
  | .snapshot slot _ _ k _ => s.reply slot codeBusError (wordOf k)
  | _ => s

/-! ## The counter snapshot (R70, R129, R163, R177, R187) -/

/-- A context slot state's code. -/
def slotStateCode : SlotState → Nat
  | .invalid => 0
  | .loading => 1
  | .valid => 2

/-- The context-store word (R70, R187). -/
def ctxSnapshot (c : CtxStore) : Word :=
  wordOf (slotStateCode c.slotA.state + 4 * slotStateCode c.slotB.state
    + 16 * bit (decide (c.active = .B)) + 32 * bit c.switchPending.isSome)

/-- The menu-unit word (R129, R187). -/
def menuSnapshot (m : MenuUnit) : Word :=
  wordOf ((match m.current with
      | some c => c.number
      | none => 31) + 256 * m.stack.length + 4096 * bit m.load.isSome)

/-- A pen state's code. -/
def penStateCode : PenState → Nat
  | .disarmed => 0
  | .armed => 1
  | .calibrating => 2

/-- An output state's code. -/
def outputCode : Output → Nat
  | .none => 0
  | .taking => 1
  | .owned => 2
  | .turning => 3
  | .stalled => 4
  | .fault => 5

/-- An unmatched reason's code. -/
def unmatchedCode : Unmatched → Nat
  | .early => 1
  | .overlong => 2
  | .aged => 3
  | .gap => 4

/-- Pen word 0 (R187). -/
def penSnapshot (c : PenChannel) (r : ReportPath) : Word :=
  wordOf (penStateCode c.state + 16 * bit (decide (c.opts.mode = .track)) + 32 * bit c.opts.single
    + 64 * headNumber c.opts.head + 256 * outputCode r.out
    + 4096 * (match c.lastUnmatched with
      | some (u, _) => unmatchedCode u
      | none => 0))

/-- The word at offset `j` of a head's eight; `hi` is the high half of the frame number taken with its low word (R177, R187). -/
def headSnapshot (s : State) (h : Head) (j : Nat) (hi : Word) : Word :=
  let x := s.head h
  match j with
  | 0 => x.linkErrors
  | 1 => x.linkLosses
  | 2 => x.overlaps
  | 3 => loWord x.frame
  | 4 => hi
  | 5 => ctxSnapshot (s.store h)
  | 6 => menuSnapshot (s.menu h)
  | _ => 0

/-- The word at offset `j` of a pen's twelve, as it stands at the grant of that word (R177, R187). Word 9 is so even with the clear flag:
an unmatched hit taken after word 0 has emptied the record shows in it (DESIGN CHOICE, log entry 36: R187 and R44 say it "then reads
0"). -/
def penSnapshotAt (s : State) (p : Pen) (j : Nat) : Word :=
  let c := s.pen p
  match j with
  | 0 => penSnapshot c (s.report p)
  | 1 => c.counters.hits
  | 2 => c.counters.ignored
  | 3 => c.counters.unmatched
  | 4 => c.counters.foreign
  | 5 => c.counters.filtered
  | 6 => c.counters.crowded
  | 7 => c.counters.empty
  | 8 => c.counters.menuBusy
  | 9 =>
    match c.lastUnmatched with
    | some (_, f) => loWord f
    | none => 0
  | 10 => (s.report p).lost
  | _ => (s.report p).seq

/-- The head or the pen, and the offset within its words, of snapshot word `k` (R187). -/
def snapshotPlace (k : Nat) : Sum Head Pen × Nat :=
  if k < 8 then (.inl .A, k)
  else if k < 16 then (.inl .B, k - 8)
  else if k < 28 then (.inr .p0, k - 16)
  else if k < 40 then (.inr .p1, k - 28)
  else if k < 52 then (.inr .p2, k - 40)
  else (.inr .p3, k - 52)

/-- The value of snapshot word `k` (R187). -/
def snapshotValue (s : State) (k : Nat) (hi : Word) : Word :=
  match snapshotPlace k with
  | (.inl h, j) => headSnapshot s h j hi
  | (.inr p, j) => penSnapshotAt s p j

/-- A head's counter is cleared as its value is taken (R17, R177). -/
def HeadRx.clearAt (x : HeadRx) (j : Nat) : HeadRx :=
  match j with
  | 0 => { x with linkErrors := 0 }
  | 1 => { x with linkLosses := 0 }
  | 2 => { x with overlaps := 0 }
  | _ => x

/-- A pen's counter, or its last-unmatched record, is cleared as its value is taken (R36, R44, R177). -/
def PenChannel.clearAt (c : PenChannel) (j : Nat) : PenChannel :=
  match j with
  | 0 => { c with lastUnmatched := none }
  | 1 => { c with counters := { c.counters with hits := 0 } }
  | 2 => { c with counters := { c.counters with ignored := 0 } }
  | 3 => { c with counters := { c.counters with unmatched := 0 } }
  | 4 => { c with counters := { c.counters with foreign := 0 } }
  | 5 => { c with counters := { c.counters with filtered := 0 } }
  | 6 => { c with counters := { c.counters with crowded := 0 } }
  | 7 => { c with counters := { c.counters with empty := 0 } }
  | 8 => { c with counters := { c.counters with menuBusy := 0 } }
  | _ => c

/-- What taking the value of snapshot word `k` with the clear flag clears. -/
def State.clearSnapshot (s : State) (k : Nat) : State :=
  match snapshotPlace k with
  | (.inl h, j) => s.setHead h ((s.head h).clearAt j)
  | (.inr p, j) => s.setPen p ((s.pen p).clearAt j)

/-- The high half of a frame number is taken with its low word (R177, R180). -/
def snapshotHigh (s : State) (k : Nat) (hi : Word) : Word :=
  match snapshotPlace k with
  | (.inl h, 3) => hiWord (s.head h).frame
  | _ => hi

/-- The grant of a snapshot word's write: the high half of a frame number is held, and with the clear flag what has been
taken is cleared (R177). -/
def State.takeSnapshotWord (s : State) : State :=
  match s.engine.work with
  | .snapshot slot addr clear k hi =>
    let hi' := snapshotHigh s k hi
    let s := if clear then s.clearSnapshot k else s
    s.work (.snapshot slot addr clear k hi')
  | _ => s

/-! ## RUN stop (R168) -/

/-- The engine's scan, request, result list and outstanding set at a RUN stop; the last-served slot is kept (R168). -/
def Engine.stop (e : Engine) : Engine :=
  { e with scanPending := false, scan := none, work := .none, results := [], resultStep := 0, outstanding := [] }

end Sys2Proof.Machine
end

