-- ==== Sys2Proof/Machine/Port.lean ====
section
/-! DEFINITION. The memory port: what each of the eleven requesters waits for, the grant by class, and the end of an access
(R178, R179). A waiting access is not held in the state: it is what its requester's state asks for (log entry 4). -/

namespace Sys2Proof.Machine

open Sys2Proof

/-! ## Waiting accesses -/

/-- The cross-centre write that pen `p` waits for; each word has the value of its axis as it is granted (R132). -/
def State.centreWaits (s : State) (p : Pen) : Option Access :=
  let c := s.pen p
  match c.track.centre, c.opts.block with
  | .idle, _ | _, none => none
  | .writing, some b | .writingAgain, some b =>
    some
      { purpose := .centreWord p c.track.second
        addr := if c.track.second then b + 1 else b
        data := some (wordOf (if c.track.second then c.track.cy else c.track.cx))
        delivery := .live }

/-- A read of the state word of a page (R153). -/
def pageStateRead (p : Pen) (addr : Nat) : Access :=
  { purpose := .pageState p, addr := addr, data := none, delivery := .live }

/-- The header word that a close writes in its `k`-th access: word 1, word 2, word 0 (R158). -/
def headerWrite (p : Pen) (r : ReportPath) (addr k : Nat) : Access :=
  match k with
  | 0 => { purpose := .headerWord p 0, addr := addr + 1, data := some (wordOf r.fill), delivery := .live }
  | 1 => { purpose := .headerWord p 1, addr := addr + 2, data := some r.seq, delivery := .live }
  | _ => { purpose := .headerWord p 2, addr := addr, data := some 1, delivery := .live }

/-- The record that an OWNED path writes next: a LOST record formed, or else the front of the queue (R155, R156). -/
def ReportPath.nextRecord (r : ReportPath) : Option Record :=
  match r.lostRecord with
  | some c => some (.lost c)
  | none => r.queue.head?

/-- The access that the report path of pen `p` waits for (R155, R156, R158, R159). -/
def State.reportWaits (s : State) (p : Pen) : Option Access :=
  let r := s.report p
  match r.pages with
  | none => none
  | some pg =>
    let here := pg.addr r.current
    match r.out with
    | .taking => some (pageStateRead p here)
    | .owned =>
      r.nextRecord.map (fun c =>
        { purpose := .recordWord p r.recordWord
          addr := recordAddr here r.fill r.recordWord
          data := some (recordWordAt c r.recordWord)
          delivery := .live })
    | .turning =>
      if r.turnStep < 3 then some (headerWrite p r here r.turnStep)
      else some (pageStateRead p (pg.addr r.current.other))
    | .stalled => if r.reread then some (pageStateRead p here) else none
    | .none | .fault => none

/-- The access that the menu unit of head `h` waits for: the write-back of the lowest dirty index, or else the next read of a
load, which waits for the dirty set to drain (R109, R110, R126). -/
def State.menuWaits (s : State) (h : Head) : Option Access :=
  let m := s.menu h
  match m.dirty, m.current with
  | i :: _, some c =>
    some
      { purpose := .writeBack h i (m.stateOf i)
        addr := c.addr + 4 + 4 * i
        data := some (wordOf (bit (m.stateOf i)))
        delivery := .live }
  | _ :: _, none => none
  | [], _ =>
    m.load.map (fun l =>
      { purpose := .menuLoad h
        addr := loadAddr s.regs h l m.staging.length
        data := none
        delivery := .live })

/-- The write of word `k` of a result's three: code, value, state word (R174). -/
def resultWrite (r : Regs) (e : Result) (k : Nat) : Access :=
  match k with
  | 0 => { purpose := .resultWord 0, addr := slotAddr r e.slot 2, data := some e.code, delivery := .live }
  | 1 => { purpose := .resultWord 1, addr := slotAddr r e.slot 3, data := some e.value, delivery := .live }
  | _ =>
    { purpose := .resultWord 2
      addr := slotAddr r e.slot 0
      data := some (if e.code = codeOK then doneCode else failedCode)
      delivery := .live }

/-- The access of the engine's work with a slot it took, or of its scan (R59, R172, R175, R177). -/
def State.workWaits (s : State) : Option Access :=
  let e := s.engine
  match e.work with
  | .none =>
    e.scan.map (fun q =>
      { purpose := .slotState q.slot, addr := slotAddr s.regs q.slot 0, data := none, delivery := .live })
  | .reading slot ws =>
    some { purpose := .slotWord, addr := slotAddr s.regs slot (slotOffset ws.length), data := none, delivery := .live }
  | .taking slot ws =>
    some
      { purpose := .taken (ws[0]?.getD 0), addr := slotAddr s.regs slot 0, data := some takenCode, delivery := .live }
  | .loading _ _ _ addr k =>
    some { purpose := .contextWord, addr := addr + k, data := none, delivery := .live }
  | .fencing _ ws fence =>
    some
      { purpose := .fenceWord
        addr := addrOf (arg ws 14) (arg ws 15) + 2 + fence.length
        data := none
        delivery := .live }
  | .snapshot _ addr _ k hi =>
    some { purpose := .snapshotWord, addr := addr + k, data := some (snapshotValue s k hi), delivery := .live }

/-- The access that the request engine waits for: while the result list is not empty, a result write (R174). -/
def State.engineWaits (s : State) : Option Access :=
  match s.engine.results with
  | e :: _ => some (resultWrite s.regs e s.engine.resultStep)
  | [] => s.workWaits

/-- The waiting access that the port grants first: cross-centre writes, report paths, menu units, the engine; within a class the
lower pen, and head A before head B (R178). -/
def State.firstWaiting (s : State) : Option Access :=
  (allPens.findSome? s.centreWaits).orElse fun _ =>
  (allPens.findSome? s.reportWaits).orElse fun _ =>
  ([Head.A, Head.B].findSome? s.menuWaits).orElse fun _ =>
  s.engineWaits

/-- With no access in flight and one waiting, the port grants it (R178). A snapshot's values are taken at the grant (R177). -/
def State.grant (s : State) : State :=
  match s.port with
  | some _ => s
  | none =>
    match s.firstWaiting with
    | none => s
    | some a =>
      let s := s.setPort (some a)
      if a.purpose = .snapshotWord then s.takeSnapshotWord else s

/-! ## The end of an access -/

/-- What an access still does whose requester has ended its work, when it completes: the write of READY, and the state-word write
of a result (R162, R168). -/
def State.endedEffect (s : State) (u : Purpose) : State :=
  match u with
  | .headerWord p 2 =>
    (s.setReport p { s.report p with seq := (s.report p).seq + 1 }).note .page
  | .resultWord 2 => s.note .request
  | _ => s

/-- RUNNING becomes 0 when the access in flight at a RUN stop has completed (R168). The stop leaves no scan in progress, also none
that began while it lasted, so a start finds none (R167; DEDUCED, log entry 8). -/
def State.finishStop (s : State) : State :=
  if s.regs.stopping ∧ s.port = none then
    (s.setRegs { s.regs with running := false }).setEngine { s.engine with scan := none }
  else s

/-- The access in flight ends, and its outcome is delivered (R178, R179). A bus error sets FAULT, but for an access that a soft
reset dropped, whose result is delivered to no block (R169; log entry 12). -/
def State.endAccess (s : State) (a : Access) (failed : Bool) (live : State → State) : State :=
  let s := s.setPort none
  match a.delivery with
  | .live => live (if failed then s.note .fault else s)
  | .ended => if failed then s.note .fault else s.endedEffect a.purpose
  | .dropped => s

/-- The end of the access in flight, where it is one of the purposes `mine`; then the port grants again (R178). Where it is not, no
such access has ended and the state stays as it is (log entry 2). -/
def State.accessEnd (s : State) (mine : Purpose → Bool) (failed : Bool) (live : Purpose → State → State) : State :=
  match s.port with
  | none => s
  | some a =>
    if mine a.purpose then (s.endAccess a failed (live a.purpose)).finishStop.grant else s

/-- One period of the reference input: each head's timers count (R1, R11), head A's first. -/
def State.tick (s : State) : State := ((s.tickHead .A).tickHead .B).grant

end Sys2Proof.Machine
end

