-- ==== Sys2Proof/Machine/RegisterOps.lean ====
section
/-! DEFINITION. The register window's writes, start, RUN stop and resets (R165 to R169). -/

namespace Sys2Proof.Machine

open Sys2Proof

/-! ## Start and RUN stop (R167, R168) -/

/-- A head that is not OFF is disabled with cause RUN stop: no slot is answered (R12). -/
def HeadRx.runStop (x : HeadRx) : HeadRx := if x.state = .off then x else x.disable

/-- The access in flight at a RUN stop completes, and its requester starts nothing more (R168). -/
def Access.end (a : Access) : Access :=
  { a with delivery := match a.delivery with
      | .dropped => .dropped
      | _ => .ended }

/-- A RUN stop (R168). RUNNING becomes 0 at once where no access is in flight. -/
def State.runStop (s : State) : State :=
  let s := { s with
    heads := { a := s.heads.a.runStop, b := s.heads.b.runStop }
    ctx := { a := s.ctx.a.stop, b := s.ctx.b.stop }
    menus := { a := s.menus.a.stop, b := s.menus.b.stop } }
  let s := allPens.foldl State.penStop s
  let s := allPens.foldl State.reportStop s
  let s := s.setEngine s.engine.stop
  let s := s.setPort (s.port.map Access.end)
  let s := s.setRegs { s.regs with run := false }
  s.finishStop

/-- A start is taken (R167). -/
def State.takeStart (s : State) : State :=
  let s := s.setRegs { s.regs with run := true, running := true, startWaiting := false }
  let s := if s.regs.enableA then s.enableHead .A else s
  let s := if s.regs.enableB then s.enableHead .B else s
  s.setEngine { s.engine with scanPending := true }

/-! ## Resets (R169) -/

/-- Every block is put to its reset values and RESETTING reads 1. The tip states follow their lines (R19), the lost counts are what
the reset leaves (R162), and the queue of commands is the environment's. -/
def State.resetBlocks (s : State) (anchor : BitVec 14) (port : Option Access) : State where
  heads := { a := .reset, b := .reset }
  ctx := { a := .reset, b := .reset }
  menus := { a := .reset, b := .reset }
  pens :=
    { p0 := .reset s.pens.p0.tipClosed, p1 := .reset s.pens.p1.tipClosed,
      p2 := .reset s.pens.p2.tipClosed, p3 := .reset s.pens.p3.tipClosed }
  reports :=
    { p0 := .reset s.reports.p0.lostAtReset, p1 := .reset s.reports.p1.lostAtReset,
      p2 := .reset s.reports.p2.lostAtReset, p3 := .reset s.reports.p3.lostAtReset }
  engine := .reset
  port := port
  regs := { Regs.reset anchor with resetting := true }
  pending := s.pending

/-- A soft reset: ANCHOR is kept, and the access already granted runs to its end on the bus (R165, R169). -/
def State.takeSoftReset (s : State) : State :=
  s.resetBlocks s.regs.anchor (s.port.map (fun a => { a with delivery := .dropped }))

/-- A hardware reset: the access in flight is abandoned at once, and ANCHOR becomes 0 (R169). -/
def State.takeHardwareReset (s : State) : State := s.resetBlocks 0 none

/-- RESETTING returns to 0 when the memory port is idle and every block holds its reset values (R169). An access that a soft
reset let run has ended by then; its result is delivered to no block. -/
def State.finishReset (s : State) : State :=
  if s.regs.resetting then (s.setPort none).setRegs { s.regs with resetting := false } else s

/-! ## Writes to CONTROL (R165) -/

/-- RUN as a write of CONTROL sets it, where it falls: a RUN stop, or the cancelling of a start that waits (R167, R168). -/
def State.lowerRun (s : State) : State :=
  if s.regs.startWaiting then s.setRegs { s.regs with run := false, startWaiting := false }
  else s.runStop

/-- RUN as a write of CONTROL sets it, where it rises: a start, or one that waits for a stop in progress (R167). -/
def State.raiseRun (s : State) : State :=
  if s.regs.running then s.setRegs { s.regs with run := true, startWaiting := true }
  else s.takeStart

/-- A head's enable as a write of CONTROL sets it (R5, R12, R165). -/
def State.writeEnable (s : State) (h : Head) (v : Bool) : State :=
  if v = s.regs.enable h then s
  else
    let s := s.setRegs (s.regs.setEnable h v)
    if v then (if s.regs.started then s.enableHead h else s) else s.disableHead h

/-- A write of `w` to CONTROL takes each bit as written (R165, R182). A fall of RUN is taken before the enables of the same write,
and a rise after them (log entry 7). -/
def State.writeControl (s : State) (w : Word) : State :=
  if s.regs.resetting then s
  else if w.getLsbD 3 then s.takeSoftReset
  else
    let s := s.setRegs { s.regs with enables := notesOf w }
    let s := if s.regs.run ∧ ¬ w.getLsbD 0 then s.lowerRun else s
    let s := s.writeEnable .A (w.getLsbD 1)
    let s := s.writeEnable .B (w.getLsbD 2)
    let s := if ¬ s.regs.run ∧ w.getLsbD 0 then s.raiseRun else s
    s.grant

/-! ## The other registers (R165, R171) -/

/-- A write to STATUS (R165, R166). -/
def State.writeStatus (s : State) (w : Word) : State :=
  if s.regs.resetting then s
  else s.setRegs { s.regs with notes := s.regs.notes.clear w }

/-- A write to ANCHOR has no effect while RUNNING reads 1; else it sets ANCHOR modulo 16384 (R165). -/
def State.writeAnchor (s : State) (w : Word) : State :=
  if s.regs.resetting ∨ s.regs.running then s
  else s.setRegs { s.regs with anchor := w.setWidth 14 }

/-- A write to ATTENTION while RUN and RUNNING both read 1 is a scan event (R165, R171). -/
def State.writeAttention (s : State) : State :=
  if s.regs.resetting then s
  else if s.regs.run ∧ s.regs.running then s.setEngine { s.engine with scanPending := true }
  else s

/-- The start that waited for a stop is taken once RUNNING has become 0 (R167). -/
def State.takeDeferredStart (s : State) : State :=
  if s.regs.startWaiting ∧ ¬ s.regs.running then s.takeStart else s

end Sys2Proof.Machine
end

