-- ==== Sys2Proof/Machine/LinkFamily.lean ====
section
/-! DEFINITION. The commands of the stroke link and its timers: words, items, step pulses, silence, loss (R1 to R18). -/

namespace Sys2Proof.Machine

open Sys2Proof

/-- FRAME_START: the strobe of a FRAME START header with good parity. A SYNCED, aligned receiver with no item begun accepts it
(R7); what the strobe does otherwise is the receiver's to say (R1, R2, R6). The parity line completes an odd number of ones. -/
def execFrameStart (h : Head) (w : Word) (s : State) : Host.Outcome State Fault Refusal :=
  .next (s.strobe h w (!goodParity w false)).grant

/-- SYNCHRONISING_FRAME_START: the strobe of a FRAME START header with good parity, which an aligned SEEKING receiver with no item
begun accepts (R6). -/
def execSynchronisingFrameStart (h : Head) (w : Word) (s : State) : Host.Outcome State Fault Refusal :=
  .next (s.strobe h w (!goodParity w false)).grant

/-- STROKE: the strobe of a STROKE item's seventh word; the item is discarded or entered (R3, R13). -/
def execStroke (h : Head) (w : Word) (parity : Bool) (s : State) : Host.Outcome State Fault Refusal :=
  .next (s.strobe h w parity).grant

/-- UNKNOWN_HEADER: the strobe of a header word with a parity error or an unknown item type (R2, R3). -/
def execUnknownHeader (h : Head) (w : Word) (parity : Bool) (s : State) : Host.Outcome State Fault Refusal :=
  .next (s.strobe h w parity).grant

/-- WORD_STROBE: one rising edge of the word strobe (R1, R2). -/
def execWordStrobe (h : Head) (w : Word) (parity : Bool) (s : State) : Host.Outcome State Fault Refusal :=
  .next (s.strobe h w parity).grant

/-- SILENCE_ALIGNMENT: the silence timer of a SEEKING or SYNCED head reaches 1,000 (R1, R3). -/
def execSilenceAlignment (h : Head) (s : State) : Host.Outcome State Fault Refusal :=
  .next (s.setHead h (s.head h).silent)

/-- STEP_PULSE (R4). -/
def execStepPulse (h : Head) (s : State) : Host.Outcome State Fault Refusal :=
  .next (s.setHead h (s.head h).stepped)

/-- LINK_LOSS: the link timer of a SYNCED head reaches 250,000 (R11). -/
def execLinkLoss (h : Head) (s : State) : Host.Outcome State Fault Refusal :=
  .next (s.loseLink h).grant

end Sys2Proof.Machine
end

