-- ==== Sys2Proof/Machine/MemoryFamily.lean ====
section
/-! DEFINITION. The commands that end the memory accesses of menu units, report paths and crosses (R110, R126, R132, R155 to R161). -/

namespace Sys2Proof.Machine

open Sys2Proof

/-- The access is a page load's read. -/
def isMenuLoad (u : Purpose) : Bool :=
  match u with
  | .menuLoad _ => true
  | _ => false

/-- A bus error on a page load's read (R110, R113). -/
def State.loadBusError (s : State) (h : Head) : State :=
  match (s.menu h).load with
  | some l => s.loadFailed h l codeBusError .busError
  | none => s

/-- MENU_LOAD_READ (R110 to R113). -/
def execMenuLoadRead (e : ReadEnd) (s : State) : Host.Outcome State Fault Refusal :=
  .next
    (s.accessEnd isMenuLoad (decide (e = .busError)) fun u t =>
      match u, e with
      | .menuLoad h, .word w => t.loadRead h w
      | .menuLoad h, .busError => t.loadBusError h
      | _, _ => t)

/-- The access is a write-back. -/
def isWriteBack (u : Purpose) : Bool :=
  match u with
  | .writeBack _ _ _ => true
  | _ => false

/-- WRITE_BACK_DONE (R126). -/
def execWriteBackDone (e : WriteEnd) (s : State) : Host.Outcome State Fault Refusal :=
  .next
    (s.accessEnd isWriteBack (decide (e = .busError)) fun u t =>
      match u, e with
      | .writeBack h i v, .done => t.setMenu h ((t.menu h).writtenBack i v)
      | .writeBack h i _, .busError => t.setMenu h ((t.menu h).writeBackFailed i)
      | _, _ => t)

/-- The access is a read of a report page's state word. -/
def isPageState (u : Purpose) : Bool :=
  match u with
  | .pageState _ => true
  | _ => false

/-- REPORT_STATE_READ (R155, R158 to R161). -/
def execReportStateRead (e : ReadEnd) (s : State) : Host.Outcome State Fault Refusal :=
  .next
    (s.accessEnd isPageState (decide (e = .busError)) fun u t =>
      match u, e with
      | .pageState p, .word w => t.pageRead p w
      | .pageState p, .busError => t.pageFault p
      | _, _ => t)

/-- The access is a write of a record word. -/
def isRecordWord (u : Purpose) : Bool :=
  match u with
  | .recordWord _ _ => true
  | _ => false

/-- RECORD_WORD_WRITTEN (R156, R161). -/
def execRecordWordWritten (e : WriteEnd) (s : State) : Host.Outcome State Fault Refusal :=
  .next
    (s.accessEnd isRecordWord (decide (e = .busError)) fun u t =>
      match u, e with
      | .recordWord p k, .done => t.recordWritten p k
      | .recordWord p _, .busError => t.pageFault p
      | _, _ => t)

/-- The access is a write of a page header word. -/
def isHeaderWord (u : Purpose) : Bool :=
  match u with
  | .headerWord _ _ => true
  | _ => false

/-- HEADER_WORD_WRITTEN (R158, R161). -/
def execHeaderWordWritten (e : WriteEnd) (s : State) : Host.Outcome State Fault Refusal :=
  .next
    (s.accessEnd isHeaderWord (decide (e = .busError)) fun u t =>
      match u, e with
      | .headerWord p k, .done => t.headerWritten p k
      | .headerWord p _, .busError => t.pageFault p
      | _, _ => t)

/-- The access is a cross-centre write. -/
def isCentreWord (u : Purpose) : Bool :=
  match u with
  | .centreWord _ _ => true
  | _ => false

/-- CENTRE_WORD_WRITTEN (R132). -/
def execCentreWordWritten (e : WriteEnd) (s : State) : Host.Outcome State Fault Refusal :=
  .next
    (s.accessEnd isCentreWord (decide (e = .busError)) fun u t =>
      match u, e with
      | .centreWord p second, .done =>
        t.setPen p { t.pen p with track := (t.pen p).track.centreWritten second }
      | .centreWord p _, .busError => t.setPen p { t.pen p with track := (t.pen p).track.centreFailed }
      | _, _ => t)

end Sys2Proof.Machine
end

