-- ==== Sys2Proof/Machine/PenFamily.lean ====
section
/-! DEFINITION. The commands of the pen lines: pulses and tip changes (R19 to R23). -/

namespace Sys2Proof.Machine

open Sys2Proof

/-- PEN_PULSE (R20 to R23). -/
def execPenPulse (p : Pen) (s : State) : Host.Outcome State Fault Refusal :=
  .next (s.pulse p).grant

/-- TIP_CLOSE (R19). -/
def execTipClose (p : Pen) (s : State) : Host.Outcome State Fault Refusal :=
  .next (s.tipCloses p)

/-- TIP_OPEN (R19, R78, R138). -/
def execTipOpen (p : Pen) (s : State) : Host.Outcome State Fault Refusal :=
  .next (s.tipOpens p).grant

end Sys2Proof.Machine
end

