-- ==== Sys2Proof/Machine/RegisterFamily.lean ====
section
/-! DEFINITION. The commands of the register window: writes, starts, stops, resets (R165 to R169). -/

namespace Sys2Proof.Machine

open Sys2Proof

/-- START: a write to CONTROL with RUN 1 (R165, R167). -/
def execStart (w : Word) (s : State) : Host.Outcome State Fault Refusal :=
  .next (s.writeControl w)

/-- DEFERRED_START: the start that waited for a stop to complete is taken (R167). -/
def execDeferredStart (s : State) : Host.Outcome State Fault Refusal :=
  .next s.takeDeferredStart

/-- RUN_STOP: a write to CONTROL with RUN 0 (R165, R168). -/
def execRunStop (w : Word) (s : State) : Host.Outcome State Fault Refusal :=
  .next (s.writeControl w)

/-- STOP_COMPLETE: the access that was in flight at the RUN stop ends, and RUNNING becomes 0 (R162, R168). -/
def execStopComplete (e : WriteEnd) (s : State) : Host.Outcome State Fault Refusal :=
  .next
    (if s.regs.stopping then
      s.accessEnd (fun _ => true) (decide (e = .busError)) (fun _ t => t)
    else s)

/-- HEAD_ENABLE: a write to CONTROL with a head's enable 1 (R5, R165). -/
def execHeadEnable (_h : Head) (w : Word) (s : State) : Host.Outcome State Fault Refusal :=
  .next (s.writeControl w)

/-- HEAD_DISABLE: a write to CONTROL with a head's enable 0 (R12, R165). -/
def execHeadDisable (_h : Head) (w : Word) (s : State) : Host.Outcome State Fault Refusal :=
  .next (s.writeControl w)

/-- NOTE_ENABLE: a write to CONTROL for its note enables (R165, R166). -/
def execNoteEnable (w : Word) (s : State) : Host.Outcome State Fault Refusal :=
  .next (s.writeControl w)

/-- SOFT_RESET: a write to CONTROL with SOFT RESET 1 (R165, R169). -/
def execSoftReset (w : Word) (s : State) : Host.Outcome State Fault Refusal :=
  .next (s.writeControl w)

/-- HARDWARE_RESET (R169). -/
def execHardwareReset (s : State) : Host.Outcome State Fault Refusal :=
  .next s.takeHardwareReset

/-- RESET_COMPLETE (R169). -/
def execResetComplete (s : State) : Host.Outcome State Fault Refusal :=
  .next s.finishReset

/-- NOTE_CLEAR: a write to STATUS (R165, R166). -/
def execNoteClear (w : Word) (s : State) : Host.Outcome State Fault Refusal :=
  .next (s.writeStatus w)

/-- ANCHOR: a write to ANCHOR (R165). -/
def execAnchor (w : Word) (s : State) : Host.Outcome State Fault Refusal :=
  .next (s.writeAnchor w)

/-- ATTENTION: a write to ATTENTION, whatever value it carries (R165, R171). -/
def execAttention (_w : Word) (s : State) : Host.Outcome State Fault Refusal :=
  .next s.writeAttention

end Sys2Proof.Machine
end

