-- ==== Sys2Proof/Machine/RequestFamily.lean ====
section
/-! DEFINITION. The commands of the request engine: scans, slots, the ten requests, results (R170 to R177). -/

namespace Sys2Proof.Machine

open Sys2Proof

/-- The access is the TAKEN write of a request of kind `k`; none stands for a kind word that names no kind (R172, R173). -/
def isTaken (k : Option Kind) (u : Purpose) : Bool :=
  match u with
  | .taken w => decide (kindOf w = k)
  | _ => false

/-- The end of a TAKEN write. A bus error abandons the request, and the scan passes on; else the slot joins the outstanding set and the
request is checked and carried out, or handed to its owner (R172, R173). -/
def State.takenEnd (s : State) (k : Option Kind) (e : WriteEnd) (serve : State → SlotNo → List Word → State) : State :=
  s.accessEnd (isTaken k) (decide (e = .busError)) fun _ t =>
    match t.engine.work with
    | .taking slot ws =>
      match e with
      | .busError => t.passOn
      | .done => serve (t.joinOutstanding slot) slot ws
    | _ => t

/-- SCAN (R171, R172). -/
def execScan (s : State) : Host.Outcome State Fault Refusal :=
  .next s.beginScan.grant

/-- The access is a scan's read of a state word. -/
def isSlotState (u : Purpose) : Bool :=
  match u with
  | .slotState _ => true
  | _ => false

/-- STATE_WORD_READ (R172). -/
def execStateWordRead (e : ReadEnd) (s : State) : Host.Outcome State Fault Refusal :=
  .next
    (s.accessEnd isSlotState (decide (e = .busError)) fun u t =>
      match u, e with
      | .slotState slot, .word w => t.stateWordRead slot w
      | _, _ => t.passOn)

/-- SLOT_WORD_READ (R172). -/
def execSlotWordRead (e : ReadEnd) (s : State) : Host.Outcome State Fault Refusal :=
  .next
    (s.accessEnd (fun u => decide (u = .slotWord)) (decide (e = .busError)) fun _ t =>
      match e with
      | .word w => t.slotWordRead w
      | .busError => t.passOn)

/-- BAD_KIND: a taken request whose kind names no request kind is answered FAILED BAD KIND (R173). -/
def execBadKind (e : WriteEnd) (s : State) : Host.Outcome State Fault Refusal :=
  .next (s.takenEnd (none) e (fun t slot _ => t.doBadKind slot))

/-- LOAD_CONTEXT: LOAD CONTEXT is checked (R58, R59). -/
def execLoadContext (e : WriteEnd) (s : State) : Host.Outcome State Fault Refusal :=
  .next (s.takenEnd (some .loadContext) e State.doLoadContext)

/-- SWITCH_CONTEXT: SWITCH CONTEXT is checked (R64). -/
def execSwitchContext (e : WriteEnd) (s : State) : Host.Outcome State Fault Refusal :=
  .next (s.takenEnd (some .switchContext) e State.doSwitchContext)

/-- ARM_PEN: ARM PEN is checked (R175). -/
def execArmPen (e : WriteEnd) (s : State) : Host.Outcome State Fault Refusal :=
  .next (s.takenEnd (some .armPen) e State.doArmPen)

/-- DISARM_PEN: DISARM PEN is checked and handed over (R29). -/
def execDisarmPen (e : WriteEnd) (s : State) : Host.Outcome State Fault Refusal :=
  .next (s.takenEnd (some .disarmPen) e State.doDisarmPen)

/-- MOVE_CROSS: MOVE CROSS is checked and handed over (R139). -/
def execMoveCross (e : WriteEnd) (s : State) : Host.Outcome State Fault Refusal :=
  .next (s.takenEnd (some .moveCross) e State.doMoveCross)

/-- CALIBRATE_PEN: CALIBRATE PEN is checked (R145). -/
def execCalibratePen (e : WriteEnd) (s : State) : Host.Outcome State Fault Refusal :=
  .next (s.takenEnd (some .calibratePen) e State.doCalibratePen)

/-- SET_MENU_PAGE: SET MENU PAGE is checked and handed over (R127). -/
def execSetMenuPage (e : WriteEnd) (s : State) : Host.Outcome State Fault Refusal :=
  .next (s.takenEnd (some .setMenuPage) e State.doSetMenuPage)

/-- HOLD_HEAD: HOLD HEAD is checked and handed over (R9, R176). -/
def execHoldHead (e : WriteEnd) (s : State) : Host.Outcome State Fault Refusal :=
  .next (s.takenEnd (some .holdHead) e State.doHoldHead)

/-- RELEASE_HEAD: RELEASE HEAD is checked and handed over (R10, R176). -/
def execReleaseHead (e : WriteEnd) (s : State) : Host.Outcome State Fault Refusal :=
  .next (s.takenEnd (some .releaseHead) e State.doReleaseHead)

/-- READ_COUNTERS: READ COUNTERS is checked (R177). -/
def execReadCounters (e : WriteEnd) (s : State) : Host.Outcome State Fault Refusal :=
  .next (s.takenEnd (some .readCounters) e State.doReadCounters)

/-- FENCE_READ (R131, R175). -/
def execFenceRead (e : ReadEnd) (s : State) : Host.Outcome State Fault Refusal :=
  .next
    (s.accessEnd (fun u => decide (u = .fenceWord)) (decide (e = .busError)) fun _ t =>
      match e with
      | .word w => t.fenceWordRead w
      | .busError => t.fenceFailed)

/-- CONTEXT_WORD_READ (R59 to R62). -/
def execContextWordRead (e : ReadEnd) (s : State) : Host.Outcome State Fault Refusal :=
  .next
    (s.accessEnd (fun u => decide (u = .contextWord)) (decide (e = .busError)) fun _ t =>
      match e with
      | .word w => t.contextWordRead w
      | .busError => t.contextFailed)

/-- SNAPSHOT_WORD_WRITTEN (R177). -/
def execSnapshotWordWritten (e : WriteEnd) (s : State) : Host.Outcome State Fault Refusal :=
  .next
    (s.accessEnd (fun u => decide (u = .snapshotWord)) (decide (e = .busError)) fun _ t =>
      match e with
      | .done => t.snapshotWritten
      | .busError => t.snapshotFailed)

/-- The access is a write of a result word. -/
def isResultWord (u : Purpose) : Bool :=
  match u with
  | .resultWord _ => true
  | _ => false

/-- RESULT_WORD_WRITTEN (R174). A bus error gives up the rest of the entry. -/
def execResultWordWritten (e : WriteEnd) (s : State) : Host.Outcome State Fault Refusal :=
  .next
    (s.accessEnd isResultWord (decide (e = .busError)) fun u t =>
      match u, e with
      | .resultWord k, .done => t.resultWritten k
      | _, _ => t.setEngine t.engine.dropResult)

end Sys2Proof.Machine
end

