-- ==== Sys2Proof/Machine/Dispatch.lean ====
section
/-! DEFINITION. The meaning of each command: one arm for each constructor, one direct call in each arm. -/

namespace Sys2Proof.Machine

open Sys2Proof

def exec (i : Instr) (s : State) : Host.Outcome State Fault Refusal :=
  match i with
  | .frameStart h w => Sys2Proof.Machine.execFrameStart h w s
  | .synchronisingFrameStart h w => Sys2Proof.Machine.execSynchronisingFrameStart h w s
  | .stroke h w parity => Sys2Proof.Machine.execStroke h w parity s
  | .unknownHeader h w parity => Sys2Proof.Machine.execUnknownHeader h w parity s
  | .silenceAlignment h => Sys2Proof.Machine.execSilenceAlignment h s
  | .stepPulse h => Sys2Proof.Machine.execStepPulse h s
  | .linkLoss h => Sys2Proof.Machine.execLinkLoss h s
  | .penPulse p => Sys2Proof.Machine.execPenPulse p s
  | .tipClose p => Sys2Proof.Machine.execTipClose p s
  | .tipOpen p => Sys2Proof.Machine.execTipOpen p s
  | .start w => Sys2Proof.Machine.execStart w s
  | .deferredStart => Sys2Proof.Machine.execDeferredStart s
  | .runStop w => Sys2Proof.Machine.execRunStop w s
  | .stopComplete e => Sys2Proof.Machine.execStopComplete e s
  | .headEnable h w => Sys2Proof.Machine.execHeadEnable h w s
  | .headDisable h w => Sys2Proof.Machine.execHeadDisable h w s
  | .noteEnable w => Sys2Proof.Machine.execNoteEnable w s
  | .softReset w => Sys2Proof.Machine.execSoftReset w s
  | .hardwareReset => Sys2Proof.Machine.execHardwareReset s
  | .resetComplete => Sys2Proof.Machine.execResetComplete s
  | .noteClear w => Sys2Proof.Machine.execNoteClear w s
  | .anchor w => Sys2Proof.Machine.execAnchor w s
  | .attention w => Sys2Proof.Machine.execAttention w s
  | .scan => Sys2Proof.Machine.execScan s
  | .stateWordRead e => Sys2Proof.Machine.execStateWordRead e s
  | .slotWordRead e => Sys2Proof.Machine.execSlotWordRead e s
  | .badKind e => Sys2Proof.Machine.execBadKind e s
  | .loadContext e => Sys2Proof.Machine.execLoadContext e s
  | .switchContext e => Sys2Proof.Machine.execSwitchContext e s
  | .armPen e => Sys2Proof.Machine.execArmPen e s
  | .disarmPen e => Sys2Proof.Machine.execDisarmPen e s
  | .moveCross e => Sys2Proof.Machine.execMoveCross e s
  | .calibratePen e => Sys2Proof.Machine.execCalibratePen e s
  | .setMenuPage e => Sys2Proof.Machine.execSetMenuPage e s
  | .holdHead e => Sys2Proof.Machine.execHoldHead e s
  | .releaseHead e => Sys2Proof.Machine.execReleaseHead e s
  | .readCounters e => Sys2Proof.Machine.execReadCounters e s
  | .fenceRead e => Sys2Proof.Machine.execFenceRead e s
  | .contextWordRead e => Sys2Proof.Machine.execContextWordRead e s
  | .snapshotWordWritten e => Sys2Proof.Machine.execSnapshotWordWritten e s
  | .resultWordWritten e => Sys2Proof.Machine.execResultWordWritten e s
  | .menuLoadRead e => Sys2Proof.Machine.execMenuLoadRead e s
  | .writeBackDone e => Sys2Proof.Machine.execWriteBackDone e s
  | .reportStateRead e => Sys2Proof.Machine.execReportStateRead e s
  | .recordWordWritten e => Sys2Proof.Machine.execRecordWordWritten e s
  | .headerWordWritten e => Sys2Proof.Machine.execHeaderWordWritten e s
  | .centreWordWritten e => Sys2Proof.Machine.execCentreWordWritten e s
  | .wordStrobe h w parity => Sys2Proof.Machine.execWordStrobe h w parity s

end Sys2Proof.Machine
end

