-- ==== Sys2Proof/Safety.lean ====
section
/-! DEFINITION. What the spec promises of the part at every moment, block by block, as invariants that claims use. -/

namespace Sys2Proof.Machine

open Sys2Proof

/-! ## Head receivers (R4, R15) -/

/-- An entry that a stroke history may hold: an accepted stroke (R3) that starts no later than step `now`, its span cut to no
less than one step (R13, R14). -/
def Stroke.fits (now : Nat) (e : Stroke) : Prop :=
  1 ≤ e.eff ∧ e.eff ≤ e.len ∧ e.len ≤ 4095 ∧ e.s0 ≤ now ∧
  e.x0 ≤ Config.screenMax ∧ e.y0 ≤ Config.screenMax ∧ e.x1 ≤ Config.screenMax ∧ e.y1 ≤ Config.screenMax

/-- A head receiver's step counter and history: the counter within its range, the mark set exactly at the limit, both empty outside
SYNCED (R4); at most 32 entries in strictly increasing order of start step, no two spans overlapping (R15). -/
def HeadRx.historyOk (x : HeadRx) : Prop :=
  x.step ≤ Config.stepMax ∧
  x.saturated = decide (x.step = Config.stepMax) ∧
  (x.state ≠ .synced → x.step = 0 ∧ x.history = []) ∧
  x.history.length ≤ Config.historySize ∧
  x.history.Pairwise (fun a b => a.s0 < b.s0 ∧ a.s0 + a.eff ≤ b.s0) ∧
  ∀ e ∈ x.history, e.fits x.step

/-- Both receivers' counters and histories are as R4 and R15 say. -/
def State.historiesOk (s : State) : Prop := ∀ h, (s.head h).historyOk

/-! ## Context stores and windows of a head (R8, R55, R60) -/

/-- A context slot: VALID holds 256 words whose fields are all in range, LOADING a part of a block, INVALID nothing
(R55, R59, R60). -/
def CtxSlot.ok (x : CtxSlot) : Prop :=
  match x.state with
  | .invalid => x.words = []
  | .loading => x.words.length < Config.contextWords
  | .valid => x.words.length = Config.contextWords ∧ ctxFirstBad x.words = none

/-- Every context slot is as R55 says, a load that the engine is busy with is that of a LOADING slot, word by word (R59), and each
head's frame-in-window count is below the window length of its active context (R8). -/
def State.windowsOk (s : State) : Prop :=
  (∀ h n, ((s.store h).slot n).ok) ∧
  (∀ slot h n addr k, s.engine.work = .loading slot h n addr k →
    ((s.store h).slot n).state = .loading ∧ ((s.store h).slot n).words.length = k) ∧
  ∀ h, (s.head h).windowCount < s.windowLength h

/-! ## Pens (R72, R73, R130, R144) -/

/-- A candidate table: at most 8 entries, no two with one tag and view, each with 1 to 255 hits, in increasing order of arrival
(R72, R73). -/
def WindowState.tableOk (w : WindowState) : Prop :=
  w.table.length ≤ Config.tableSize ∧
  w.table.Pairwise (fun a b => ¬ (a.tag = b.tag ∧ a.view = b.view) ∧ a.arrival < b.arrival) ∧
  ∀ c ∈ w.table, 1 ≤ c.hits ∧ c.hits ≤ 255 ∧ c.arrival < w.nextArrival

/-- A pen's window: its table is in order, and a pen that is not ARMED in PICK mode holds it as a window opens it (R72). -/
def PenChannel.windowOk (c : PenChannel) : Prop :=
  c.window.tableOk ∧ (¬ (c.state = .armed ∧ c.opts.mode = .pick) → c.window = .opened)

/-- A point within a fence, and the fence within the screen (R130, R131). -/
def Fence.holds (f : Fence) (x y : Nat) : Prop :=
  f.xmin ≤ x ∧ x ≤ f.xmax ∧ f.ymin ≤ y ∧ y ≤ f.ymax ∧ f.xmax ≤ Config.screenMax ∧ f.ymax ≤ Config.screenMax

/-- A pen's cross: the centre lies within the fence (R130), a pen that is not DISARMED has a fence and a block exactly in TRACK mode
(R131), and outside TRACK mode or while DISARMED the tracking state rests at NO FIX with no centre write (R130, R132). -/
def PenChannel.crossOk (c : PenChannel) : Prop :=
  (∀ f, c.track.fence = some f → f.holds c.track.cx c.track.cy) ∧
  (c.state ≠ .disarmed → c.opts.mode = .track → c.track.fence.isSome ∧ c.opts.block.isSome) ∧
  (c.state = .disarmed ∨ c.opts.mode = .pick →
    c.track.fix = .noFix ∧ c.track.nX = 0 ∧ c.track.nY = 0 ∧ c.track.centre = .idle)

/-- A calibration measurement is present exactly while the pen is CALIBRATING, and its counts are below those that end it
(R144, R148). -/
def PenChannel.calibOk (c : PenChannel) : Prop :=
  (c.calib.isSome ↔ c.state = .calibrating) ∧
  ∀ k, c.calib = some k → k.good < Config.goodFrames ∧ k.judged < Config.judgedFrames

/-- A fence is being read only for an ARM in TRACK mode of a pen that is not CALIBRATING (R175). -/
def State.fencingOk (s : State) : Prop :=
  ∀ slot ws fence, s.engine.work = .fencing slot ws fence →
    ∃ rq, armRequestOf ws = some rq ∧ rq.opts.mode = .track ∧ (s.pen rq.pen).state ≠ .calibrating

/-- Every pen's window, cross, calibration and delay are as R31, R72, R130 and R144 say. -/
def State.pensOk (s : State) : Prop :=
  s.fencingOk ∧ ∀ p, (s.pen p).windowOk ∧ (s.pen p).crossOk ∧ (s.pen p).calibOk ∧ (s.pen p).delay ≤ 255

/-! ## Menu units (R107, R126) -/

/-- A button that a menu table may hold (R107, R111). -/
def Button.fits (b : Button) : Prop := b.tag ≤ 1983 ∧ (b.kind = .page → b.target < 16)

/-- What a page load in flight has staged: a part of its 1 to 24 buttons' words, and nothing before its count is read (R107, R110). -/
def LoadPhase.stagingOk (ph : LoadPhase) (staging : List Word) : Prop :=
  match ph with
  | .buttons _ n => 1 ≤ n ∧ n ≤ Config.maxButtons ∧ staging.length < 4 * n
  | .dirLow | .dirHigh _ | .entryLow _ | .entryHigh _ _ | .count _ => staging = []

/-- A menu unit: 0 to 24 buttons with distinct tags, a stack of 0 to 4 page numbers below 16, room to undo a load's stack change, a
current page below 16, a dirty set of indices 0–23 in increasing order, and a staging table that a load in flight fills
(R107, R110, R113, R126). -/
def MenuUnit.ok (m : MenuUnit) : Prop :=
  m.table.length ≤ Config.maxButtons ∧
  m.table.Pairwise (fun a b => a.tag ≠ b.tag) ∧
  (∀ b ∈ m.table, b.fits) ∧
  m.stack.length ≤ Config.stackDepth ∧
  (∀ n ∈ m.stack, n < 16) ∧
  (∀ c, m.current = some c → c.number < 16) ∧
  m.dirty.Pairwise (· < ·) ∧
  (∀ i ∈ m.dirty, i < Config.maxButtons) ∧
  (m.load = none → m.staging = []) ∧
  ∀ l, m.load = some l →
    l.page < 16 ∧ (∀ w, l.origin = .backButton w → m.stack.length < Config.stackDepth) ∧ l.phase.stagingOk m.staging

/-- Both menu units are as R107 says. -/
def State.menusOk (s : State) : Prop := ∀ h, (s.menu h).ok

/-! ## Report paths (R152, R154, R156) -/

/-- A live write of a record word of pen `p` is in flight. -/
def State.recordInFlight (s : State) (p : Pen) : Prop :=
  ∃ a k, s.port = some a ∧ a.purpose = .recordWord p k ∧ a.delivery = .live

/-- A report path: at most 4 queued records, none in NONE, STALLED or FAULT; fewer than 8 records in an owned page and never more than
8; a close mark that counts queued records; a LOST record only at the head of an owned page; and a flush with nothing left to write
has closed or released its page, unless a LOST record is still to be written (R152, R154, R155, R156, R160). -/
def ReportPath.ok (r : ReportPath) : Prop :=
  r.queue.length ≤ Config.queueSize ∧
  (r.out = .none ∨ r.out = .stalled ∨ r.out = .fault → r.queue = []) ∧
  r.fill ≤ Config.pageRecords ∧
  (r.out = .owned → r.fill < Config.pageRecords) ∧
  r.markCount ≤ r.queue.length ∧
  (∀ c, r.lostRecord = some c → r.out = .owned ∧ r.fill = 0) ∧
  (r.out = .owned → r.mark = some { kind := .flush, count := 0 } → r.lostRecord.isSome)

/-- Every report path is in order, and a record word is in flight only for a path that owns its page and has a record to write. -/
def State.reportsOk (s : State) : Prop :=
  ∀ p, (s.report p).ok ∧
    (s.recordInFlight p → (s.report p).out = .owned ∧ (s.report p).nextRecord.isSome)

/-! ## Request slots (R170, R174) -/

/-- One when the slot is the one named. -/
def holdsSlot (k : SlotNo) (x : Option SlotNo) : Nat := if x = some k then 1 else 0

/-- The slot that the busy engine serves (R173). -/
def Work.busySlot : Work → Option SlotNo
  | .loading slot _ _ _ _ => some slot
  | .fencing slot _ _ => some slot
  | .snapshot slot _ _ _ _ => some slot
  | .none | .reading _ _ | .taking _ _ => Option.none

/-- The slot that is taken but whose TAKEN write has not completed (R172). -/
def Work.unservedSlot : Work → Option SlotNo
  | .reading slot _ => some slot
  | .taking slot _ => some slot
  | .none | .loading _ _ _ _ _ | .fencing _ _ _ | .snapshot _ _ _ _ _ => Option.none

/-- The slot of a SET MENU PAGE that a load serves (R109). -/
def MenuUnit.servedSlot (m : MenuUnit) : Option SlotNo :=
  match m.load with
  | some l =>
    match l.origin with
    | .setPage slot _ => some slot
    | .pageButton _ | .backButton _ => none
  | none => none

/-- How many answers slot `k` can still get: entries of the result list for it, and owners that keep its number (R173, R174). -/
def State.answersDue (s : State) (k : SlotNo) : Nat :=
  (s.engine.results.countP (fun r => r.slot == k)) + holdsSlot k s.engine.work.busySlot +
  holdsSlot k s.heads.a.waitingSlot + holdsSlot k s.heads.b.waitingSlot +
  holdsSlot k s.ctx.a.switchPending + holdsSlot k s.ctx.b.switchPending +
  holdsSlot k s.menus.a.servedSlot + holdsSlot k s.menus.b.servedSlot +
  holdsSlot k (s.pens.p0.calib.map (·.slot)) + holdsSlot k (s.pens.p1.calib.map (·.slot)) +
  holdsSlot k (s.pens.p2.calib.map (·.slot)) + holdsSlot k (s.pens.p3.calib.map (·.slot))

/-- A slot has at most one answer due while it is outstanding and none otherwise, no slot is outstanding twice, and a slot whose
TAKEN write has not completed is not outstanding (R170, R172, R174); a head that is OFF waits on no slot (R12). -/
def State.slotsOk (s : State) : Prop :=
  s.engine.outstanding.Nodup ∧
  (∀ h, (s.head h).state = .off →
    (s.head h).hold = false ∧ (s.head h).holdPending = false ∧ (s.head h).waitingSlot = none) ∧
  (∀ k, s.answersDue k ≤ if k ∈ s.engine.outstanding then 1 else 0) ∧
  ∀ k, s.engine.work.unservedSlot = some k → k ∉ s.engine.outstanding

/-! ## Memory port (R178) -/

/-- While RESETTING reads 1 the blocks rest: heads OFF, pens DISARMED, RUN and RUNNING 0, no start waiting, nothing waiting at the port,
and no access in flight but one whose result goes to no block (R169). -/
def State.resetRests (s : State) : Prop :=
  (∀ h, (s.head h).state = .off) ∧ (∀ p, (s.pen p).state = .disarmed) ∧
  s.regs.run = false ∧ s.regs.running = false ∧ s.regs.startWaiting = false ∧ s.firstWaiting = none ∧
  ∀ a, s.port = some a → a.delivery = .dropped

/-- From a RUN stop or a reset to the next start every block is as they leave it: heads OFF, pens DISARMED with no centre write, no
load, dirty index or pending switch, no output, and an engine with no request in progress, no result and no outstanding slot. While
RUNNING reads 1 the stop waits for the access in flight, which goes to no live requester; when it reads 0 no scan is in progress and,
outside a reset, no access is in flight (R12, R35, R69, R128, R132, R162, R167, R168). -/
def State.stopRests (s : State) : Prop :=
  (∀ h, (s.head h).state = .off ∧ (s.store h).switchPending = none ∧ (s.menu h).load = none ∧ (s.menu h).dirty = []) ∧
  (∀ p, (s.pen p).state = .disarmed ∧ (s.pen p).track.centre = .idle ∧ (s.report p).out = .none) ∧
  s.engine.work = .none ∧ s.engine.results = [] ∧ s.engine.resultStep = 0 ∧ s.engine.outstanding = [] ∧
  (s.regs.running = true → ∃ a, s.port = some a ∧ a.delivery ≠ .live) ∧
  (s.regs.running = false → s.engine.scan = none ∧ (s.regs.resetting = false → s.port = none))

/-- The port is settled: it has an access in flight or no requester waits (R178); while RESETTING reads 1 the blocks rest, and so they
do from a RUN stop or a reset to the next start. -/
def State.portOk (s : State) : Prop :=
  (s.port = none → s.firstWaiting = none) ∧ (s.regs.resetting → s.resetRests) ∧ (s.regs.started = false → s.stopRests)

/-! ## What claims about one command start from -/

/-- A live access of purpose `u` is in flight and no RUN stop is in progress. -/
def State.inFlight (s : State) (u : Purpose) : Prop :=
  (∃ addr data, s.port = some { purpose := u, addr := addr, data := data, delivery := .live }) ∧
  s.regs.stopping = false

/-- The TAKEN write of a request of kind `k` is in flight; `ws` are the words read from the slot (R172). -/
def State.takenInFlight (s : State) (k : Option Kind) (slot : SlotNo) (ws : List Word) : Prop :=
  (∃ w, kindOf w = k ∧ s.inFlight (.taken w)) ∧ s.engine.work = .taking slot ws

/-- The command that ends the TAKEN write of a request of kind `k`; none stands for a kind word that names no kind. -/
def requestCommand (k : Option Kind) (e : WriteEnd) : Instr :=
  match k with
  | none => .badKind e
  | some .loadContext => .loadContext e
  | some .switchContext => .switchContext e
  | some .armPen => .armPen e
  | some .disarmPen => .disarmPen e
  | some .moveCross => .moveCross e
  | some .calibratePen => .calibratePen e
  | some .setMenuPage => .setMenuPage e
  | some .holdHead => .holdHead e
  | some .releaseHead => .releaseHead e
  | some .readCounters => .readCounters e

/-- The state once the TAKEN write has completed: the slot is outstanding and last served (R172 step 2). -/
def State.taken (s : State) (slot : SlotNo) : State :=
  { s with
    port := none
    engine :=
      { s.engine with work := .none, outstanding := s.engine.outstanding ++ [slot], lastServed := slot } }

/-- A pulse of pen `p` becomes a hit: no reset is in progress, and the dead-time mark does not drop it (R20). -/
def State.hitTaken (s : State) (p : Pen) : Prop :=
  s.regs.resetting = false ∧
  ∀ k, (s.pen p).deadMark = some ((s.head (s.penHead p)).frame, k) → k + 8 ≤ (s.head (s.penHead p)).step

/-- A hit of pen `p` reaches the correlator under context `ws`: R22 does not ignore it, and the pen is ARMED (R23, R38). -/
def State.hitCorrelated (s : State) (p : Pen) (ws : List Word) : Prop :=
  s.hitTaken p ∧ (s.pen p).state = .armed ∧ (s.head (s.penHead p)).state = .synced ∧
  (s.head (s.penHead p)).hold = false ∧ s.activeCtx (s.penHead p) = some ws

/-- The pen once its hit is counted in HITS and has set the dead-time mark (R20, R21). -/
def State.penAfterHit (s : State) (p : Pen) : PenChannel :=
  { s.pen p with
    deadMark := some ((s.head (s.penHead p)).frame, (s.head (s.penHead p)).step)
    counters := { (s.pen p).counters with hits := satInc (s.pen p).counters.hits } }

/-- What the correlator gives for a hit of pen `p` taken now (R38 to R42). -/
def State.correlated (s : State) (p : Pen) : Except Unmatched (Stroke × Nat) :=
  correlate (s.head (s.penHead p)) (s.pen p).delay (s.head (s.penHead p)).step (s.head (s.penHead p)).saturated

end Sys2Proof.Machine
end

