-- ==== Sys2Proof/Certificates/Slice0/Obligations.lean ====
section
/-! DEFINITION. The statements for the provers: what each command does, pure rules, and the invariants that every step keeps. -/

open Sys2Proof Sys2Proof.Machine

/-! ## The machine -/

/-- A step takes the command at the front of the queue and executes it on the state with the queue's rest. -/
def Obligations.StepRunsFrontCommand : Prop :=
  ∀ (c : Instr) (cs : List Instr) (s : State), step { s with pending := c :: cs } = exec c { s with pending := cs }

/-- On an empty queue one reference period passes (the model's choice, log entry 3): each head that is not OFF counts its silence timer, which stops at
1,000 (log entry 22) and on reaching it aligns the receiver and gives up a partial item (R1, R3), a SYNCED one its link timer too, and the port
grants. The period that brings a link timer to 250,000 loses that head's link (R11), after what the silence timer does in it (log entry 31); where
both heads' do, head A's first (log entry 3). -/
def Obligations.EmptyQueueCountsPeriods : Prop :=
  ∀ s : State, s.pending = [] →
    let silent : HeadRx → HeadRx := fun x =>
      if x.silence < 999 then { x with silence := x.silence + 1 }
      else if x.silence = 999 then
        { x with
          silence := 1000, aligned := true, item := []
          linkErrors := if x.item = [] then x.linkErrors else satInc x.linkErrors }
      else x
    let aged : HeadRx → HeadRx := fun x =>
      match x.state with
      | .off => x
      | .seeking => silent x
      | .synced => { silent x with linkTimer := x.linkTimer + 1 }
    let due : Head → Prop := fun h => (s.head h).state = .synced ∧ 250000 ≤ (s.head h).linkTimer + 1
    (¬ due .A → ¬ due .B → step s = .next (State.grant { s with heads := { a := aged s.heads.a, b := aged s.heads.b } })) ∧
    (∀ h k, h ≠ k → due h → ¬ due k →
      step s =
        exec (.linkLoss h) { s with heads := (s.heads.set h (silent (s.head h))).set k (aged (s.head k)) }) ∧
    (due .A → due .B →
      ∃ u : State,
        exec (.linkLoss .A) { s with heads := { a := silent s.heads.a, b := silent s.heads.b } } = .next u.grant ∧
        u.port = s.port ∧ step s = exec (.linkLoss .B) u)

/-- No command faults or is refused in any state: one whose event cannot occur there still answers a next state (the model's choice, log entry 2). And
no command touches the queue of the others, which is the model's own (log entry 27). -/
def Obligations.CommandsAnswerAndLeaveTheQueue : Prop :=
  ∀ (c : Instr) (s : State), ∃ t : State, exec c s = .next t ∧ t.pending = s.pending

/-! ## The register window -/

/-- A hardware reset puts every block to its reset values, with RESETTING 1, no access in flight and ANCHOR 0; the tip states follow their lines and
each lost count holds the records that the reset discards, without the count that stood before (R162, R169; log entry 13). A soft reset does the same
but for ANCHOR, which is kept, and the access in flight, which runs on for no block (R165, R169); RESET_COMPLETE makes the port idle, be that access
still there (log entry 15), and RESETTING 0, and while RESETTING reads 0 it changes nothing (log entry 2). -/
def Obligations.ResetTakenAndCompleted : Prop :=
  (∀ s : State,
    let lost : ReportPath → Counter := fun r => satAdd (r.lostRecord.getD 0) r.queue.length
    exec .hardwareReset s =
      .next
        { heads := { a := HeadRx.reset, b := HeadRx.reset }
          ctx := { a := CtxStore.reset, b := CtxStore.reset }
          menus := { a := MenuUnit.reset, b := MenuUnit.reset }
          pens :=
            { p0 := PenChannel.reset s.pens.p0.tipClosed, p1 := PenChannel.reset s.pens.p1.tipClosed,
              p2 := PenChannel.reset s.pens.p2.tipClosed, p3 := PenChannel.reset s.pens.p3.tipClosed }
          reports :=
            { p0 := ReportPath.reset (lost s.reports.p0), p1 := ReportPath.reset (lost s.reports.p1),
              p2 := ReportPath.reset (lost s.reports.p2), p3 := ReportPath.reset (lost s.reports.p3) }
          engine := Engine.reset
          port := none
          regs := { Regs.reset 0 with resetting := true }
          pending := s.pending }) ∧
  (∀ (w : Word) (s : State), s.regs.resetting = false → w.getLsbD 3 = true →
    ∃ t u : State, exec .hardwareReset s = .next t ∧ exec (.softReset w) s = .next u ∧
      u = { t with
            port := s.port.map (fun a => { a with delivery := .dropped })
            regs := { t.regs with anchor := s.regs.anchor } } ∧
      exec .resetComplete u = .next { u with port := none, regs := { u.regs with resetting := false } } ∧
      exec .resetComplete s = .next s)

/-- The values after a reset, field by field (R18, R37, R71, R95, R129, R130, R152, R165, R169), in State.reset, where the reset has completed, so
that RESETTING reads 0 (log entry 28), and has discarded no record, so that each lost count is 0 (R162). -/
def Obligations.ResetValues : Prop :=
  (∀ h, (State.reset.head h).state = .off ∧ (State.reset.head h).aligned = false ∧ (State.reset.head h).silence = 0 ∧
    (State.reset.head h).item = [] ∧ (State.reset.head h).step = 0 ∧ (State.reset.head h).saturated = false ∧
    (State.reset.head h).frame = 0 ∧ (State.reset.head h).windowCount = 0 ∧ (State.reset.head h).linkTimer = 0 ∧
    (State.reset.head h).hold = false ∧ (State.reset.head h).holdPending = false ∧
    (State.reset.head h).waitingSlot = none ∧ (State.reset.head h).history = [] ∧
    (State.reset.head h).overwritten = false ∧ (State.reset.head h).forward = none ∧
    (State.reset.head h).reverse = none ∧ (State.reset.head h).linkErrors = 0 ∧
    (State.reset.head h).linkLosses = 0 ∧ (State.reset.head h).overlaps = 0) ∧
  (∀ h, (State.reset.store h).slotA.state = .invalid ∧ (State.reset.store h).slotB.state = .invalid ∧
    (State.reset.store h).active = .A ∧ (State.reset.store h).switchPending = none) ∧
  (∀ h, (State.reset.menu h).table = [] ∧ (State.reset.menu h).current = none ∧ (State.reset.menu h).staging = [] ∧
    (State.reset.menu h).stack = [] ∧ (State.reset.menu h).load = none ∧ (State.reset.menu h).dirty = []) ∧
  (∀ p, (State.reset.pen p).state = .disarmed ∧ (State.reset.pen p).opts.head = .A ∧
    (State.reset.pen p).opts.mode = .pick ∧ (State.reset.pen p).opts.single = false ∧
    (State.reset.pen p).opts.gated = false ∧ (State.reset.pen p).opts.block = none ∧
    (State.reset.pen p).opts.view = 0 ∧ (State.reset.pen p).delay = 0 ∧ (State.reset.pen p).deadMark = none ∧
    (State.reset.pen p).heldMark = false ∧
    (State.reset.pen p).window = { table := [], idle := 0, crowded := false, nextArrival := 1 } ∧
    (State.reset.pen p).run = none ∧ (State.reset.pen p).lockout = none ∧ (State.reset.pen p).calib = none ∧
    (State.reset.pen p).track =
      { fix := .noFix, fence := none, cx := 0, cy := 0, rx := 0, ry := 0, sumX := 0, nX := 0, sumY := 0, nY := 0,
        miss := 0, lastArm := none, centre := .idle, second := false } ∧
    (State.reset.pen p).lastUnmatched = none ∧
    (State.reset.pen p).counters =
      { hits := 0, ignored := 0, unmatched := 0, foreign := 0, filtered := 0, crowded := 0, empty := 0,
        menuBusy := 0 }) ∧
  (∀ p, (State.reset.report p).pages = none ∧ (State.reset.report p).out = .none ∧
    (State.reset.report p).current = .p0 ∧ (State.reset.report p).fill = 0 ∧ (State.reset.report p).queue = [] ∧
    (State.reset.report p).mark = none ∧ (State.reset.report p).pendingPages = none ∧
    (State.reset.report p).lost = 0 ∧ (State.reset.report p).seq = 0) ∧
  State.reset.engine.scanPending = false ∧ State.reset.engine.lastServed = 7 ∧ State.reset.engine.scan = none ∧
  State.reset.engine.work = .none ∧ State.reset.engine.results = [] ∧ State.reset.engine.outstanding = [] ∧
  State.reset.port = none ∧
  (∀ a : BitVec 2, registerValue State.reset a = 0)

/-- A start (R167), with what entry to SEEKING leaves (R5): taken by the write of RUN while RUNNING reads 0, the heads being OFF as a stop or a
reset leaves them; and RUN written 1 while a stop is in progress reads 1 at once and waits, to be taken by itself later, or cancelled by RUN written
0, which is no second stop. Whatever began during a stop, a start finds no scan, no request in progress, an empty result list and an empty
outstanding set: State.portOk holds at reset and every step keeps it (PromisesHoldAtReset, PortKept; log entry 8). -/
def Obligations.StartTakenOrWaits : Prop :=
  (let sought : HeadRx → HeadRx := fun x =>
    { x with
      state := .seeking, aligned := false, silence := 0, item := [], step := 0, saturated := false, history := [],
      overwritten := false, forward := none, reverse := none }
  (∀ (w : Word) (s : State), s.regs.resetting = false → s.regs.run = false → s.regs.running = false →
    s.regs.startWaiting = false → (∀ h, (s.head h).state = .off) → w.getLsbD 0 = true → w.getLsbD 3 = false →
    exec (.start w) s =
      .next (State.grant
        { s with
          heads :=
            { a := if w.getLsbD 1 then sought s.heads.a else s.heads.a
              b := if w.getLsbD 2 then sought s.heads.b else s.heads.b }
          engine := { s.engine with scanPending := true }
          regs :=
            { s.regs with
              run := true, running := true, enableA := w.getLsbD 1, enableB := w.getLsbD 2, enables := notesOf w } })) ∧
  (∀ s : State, s.regs.startWaiting = true → s.regs.running = false → (∀ h, (s.head h).state = .off) →
    exec .deferredStart s =
      .next
        { s with
          heads :=
            { a := if s.regs.enableA then sought s.heads.a else s.heads.a
              b := if s.regs.enableB then sought s.heads.b else s.heads.b }
          engine := { s.engine with scanPending := true }
          regs := { s.regs with run := true, running := true, startWaiting := false } })) ∧
  (∀ s : State, s.portOk → s.regs.running = false →
    s.engine.scan = none ∧ s.engine.work = .none ∧ s.engine.results = [] ∧ s.engine.outstanding = []) ∧
  (∀ (w : Word) (s : State), s.regs.resetting = false → s.regs.running = true → w.getLsbD 3 = false →
    w.getLsbD 1 = s.regs.enableA → w.getLsbD 2 = s.regs.enableB →
    (w.getLsbD 0 = true → s.regs.run = false →
      exec (.start w) s =
        .next (State.grant { s with regs := { s.regs with run := true, startWaiting := true, enables := notesOf w } })) ∧
    (w.getLsbD 0 = false → s.regs.run = true → s.regs.startWaiting = true →
      exec (.runStop w) s =
        .next (State.grant { s with regs := { s.regs with run := false, startWaiting := false, enables := notesOf w } })))

/-- A RUN stop at every block (R12, R35, R69, R128, R132, R162, R168): no slot is written, records are discarded and counted, the stack change of a
page load in flight is undone, each centre-write state is IDLE at once (log entry 23), and RUNNING becomes 0 at once where no access is in flight.
STOP_COMPLETE is the end of the access in flight, whatever it is (log entry 14): READY raises the page sequence and sets PAGE, a result's state word
sets REQUEST, a bus error sets FAULT alone (log entry 26), and any other completion changes nothing more. The end of the stop abandons a scan that
began during it (log entry 8). -/
def Obligations.RunStopTakenAndCompleted : Prop :=
  (∀ (w : Word) (s : State), s.regs.resetting = false → s.regs.run = true → s.regs.running = true →
    s.regs.startWaiting = false → w.getLsbD 0 = false → w.getLsbD 3 = false →
    w.getLsbD 1 = s.regs.enableA → w.getLsbD 2 = s.regs.enableB →
    ∃ t : State, exec (.runStop w) s = .next t ∧
      (∀ h, t.head h =
        if (s.head h).state = .off then s.head h
        else
          { s.head h with
            state := .off, item := [], step := 0, saturated := false, history := [], overwritten := false,
            forward := none, reverse := none, windowCount := 0, hold := false, holdPending := false,
            waitingSlot := none }) ∧
      (∀ p, t.pen p =
        { s.pen p with
          state := .disarmed, window := .opened, run := none, lockout := none, deadMark := none, calib := none
          track :=
            { (s.pen p).track with
              fix := .noFix, sumX := 0, nX := 0, sumY := 0, nY := 0, centre := .idle, second := false } }) ∧
      (∀ p, t.report p =
        { s.report p with
          out := .none, current := .p0, fill := 0, queue := [], mark := none, pendingPages := none,
          lostRecord := none, recordWord := 0, turnStep := 0, reread := false
          lost :=
            satAdd (satAdd (s.report p).lost (s.report p).queue.length) ((s.report p).lostRecord.getD 0).toNat }) ∧
      (∀ h n, (t.store h).slot n =
        if ((s.store h).slot n).state = .loading then { state := .invalid, words := [] } else (s.store h).slot n) ∧
      (∀ h, (t.store h).active = (s.store h).active ∧ (t.store h).switchPending = none) ∧
      (∀ h, (t.menu h).table = (s.menu h).table ∧ (t.menu h).current = (s.menu h).current ∧
        (t.menu h).staging = [] ∧ (t.menu h).load = none ∧ (t.menu h).dirty = [] ∧
        (t.menu h).stack =
          match (s.menu h).load with
          | none => (s.menu h).stack
          | some l =>
            match l.origin with
            | .setPage _ _ => (s.menu h).stack
            | .pageButton _ => (s.menu h).stack.drop 1
            | .backButton _ => l.page :: (s.menu h).stack) ∧
      t.engine =
        { s.engine with
          scanPending := false, scan := none, work := .none, results := [], resultStep := 0, outstanding := [] } ∧
      t.port =
        s.port.map (fun a => { a with delivery := if a.delivery = .dropped then .dropped else .ended }) ∧
      t.regs =
        { s.regs with
          run := false
          running := s.port.isSome
          enables := notesOf w
          notes :=
            { s.regs.notes with lost := s.regs.notes.lost || allPens.any (fun p => decide ((s.report p).queue ≠ [])) } } ∧
      t.pending = s.pending) ∧
  (∀ (s : State) (a : Access), s.regs.stopping = true → s.port = some a → a.delivery = .ended →
    let after : Notes → State := fun n =>
      { s with port := none, engine := { s.engine with scan := none }, regs := { s.regs with running := false, notes := n } }
    exec (.stopComplete .busError) s = .next (State.grant (after { s.regs.notes with fault := true })) ∧
    (∀ p, a.purpose = .headerWord p 2 →
      exec (.stopComplete .done) s =
        .next (State.grant
          { after { s.regs.notes with page := true } with
            reports := s.reports.set p { s.report p with seq := (s.report p).seq + 1 } })) ∧
    (a.purpose = .resultWord 2 →
      exec (.stopComplete .done) s = .next (State.grant (after { s.regs.notes with request := true }))) ∧
    ((∀ p, a.purpose ≠ .headerWord p 2) → a.purpose ≠ .resultWord 2 →
      exec (.stopComplete .done) s = .next (State.grant (after s.regs.notes))))

/-- A head's enable written 1 while RUN is 1 takes the head from OFF to SEEKING, and while RUN is 0, or a stop is in progress or a start waits, only
sets the enable (R5, R167); written 0 for a head already OFF it only clears the enable, and a pending switch stays pending (R12, R68). Written 0 it
disables a head that is not OFF (R12, R34, R68): its own state; each of its pens and their report paths as State.penLoss says, which LinkLost states
rule by rule; and the answers, in the model's order (log entry 16): a waiting hold or release, the calibrations of its pens by pen number (FAILED
DISTURBED, R149), a pending switch. The dead-time mark goes in every pen state (log entry 24). -/
def Obligations.HeadEnabledOrDisabled : Prop :=
  (∀ (h k : Head) (w : Word) (s : State), h ≠ k → s.regs.resetting = false → s.regs.startWaiting = false →
    s.regs.enable h = false → (s.head h).state = .off → w.getLsbD 0 = s.regs.run → w.getLsbD 3 = false →
    w.getLsbD h.enableBit = true → w.getLsbD k.enableBit = s.regs.enable k → s.regs.running = s.regs.run →
    exec (.headEnable h w) s =
      .next (State.grant
        { s with
          heads :=
            if s.regs.run then
              s.heads.set h
                { s.head h with
                  state := .seeking, aligned := false, silence := 0, item := [], step := 0, saturated := false,
                  history := [], overwritten := false, forward := none, reverse := none }
            else s.heads
          regs :=
            { s.regs with
              enableA := w.getLsbD 1, enableB := w.getLsbD 2, enables := notesOf w } })) ∧
  (∀ (h k : Head) (w : Word) (s : State), h ≠ k → s.regs.resetting = false → w.getLsbD 0 = s.regs.run →
    w.getLsbD 3 = false → w.getLsbD k.enableBit = s.regs.enable k →
    let written : State :=
      { s with regs := { s.regs with enableA := w.getLsbD 1, enableB := w.getLsbD 2, enables := notesOf w } }
    (s.regs.enable h = false → w.getLsbD h.enableBit = true →
      s.regs.running = true ∧ s.regs.run = false ∨ s.regs.startWaiting = true →
      exec (.headEnable h w) s = .next written.grant) ∧
    (s.regs.enable h = true → w.getLsbD h.enableBit = false → (s.head h).state = .off →
      exec (.headDisable h w) s = .next written.grant)) ∧
  (∀ (h k : Head) (w : Word) (s : State), h ≠ k → s.regs.resetting = false →
    s.regs.enable h = true → (s.head h).state ≠ .off → w.getLsbD 0 = s.regs.run → w.getLsbD 3 = false →
    w.getLsbD h.enableBit = false → w.getLsbD k.enableBit = s.regs.enable k →
    ∃ u : State, exec (.headDisable h w) s = .next u.grant ∧
      u.head h =
        { s.head h with
          state := .off, item := [], step := 0, saturated := false, history := [], overwritten := false,
          forward := none, reverse := none, windowCount := 0, hold := false, holdPending := false,
          waitingSlot := none } ∧
      u.head k = s.head k ∧ u.store k = s.store k ∧
      u.store h = { s.store h with switchPending := none } ∧ u.menus = s.menus ∧ u.port = s.port ∧
      u.regs.enable h = false ∧ u.regs.enable k = s.regs.enable k ∧
      u.regs =
        { s.regs with
          enableA := u.regs.enableA, enableB := u.regs.enableB, enables := notesOf w
          notes := { s.regs.notes with lost := u.regs.notes.lost } } ∧
      u.pending = s.pending ∧
      u.regs.notes.lost =
        (s.regs.notes.lost || allPens.any (fun p => decide (s.penHead p = h) && (s.penLoss .disable p).regs.notes.lost)) ∧
      u.engine =
        { s.engine with
          results :=
            s.engine.results ++
            (match (s.head h).holdPending, (s.head h).waitingSlot with
              | true, some slot => [{ slot := slot, code := if (s.head h).hold then 0 else 15, value := 0 }]
              | _, _ => []) ++
            allPens.flatMap (fun p =>
              if s.penHead p = h then
                match (s.pen p).state, (s.pen p).calib with
                | .calibrating, some k => [{ slot := k.slot, code := 12, value := BitVec.ofNat 16 k.good }]
                | _, _ => []
              else []) ++
            (match (s.store h).switchPending with
              | some slot => [{ slot := slot, code := 15, value := 0 }]
              | none => []) } ∧
      ∀ p, (s.penHead p ≠ h → u.pen p = s.pen p ∧ u.report p = s.report p) ∧
        (s.penHead p = h →
          u.pen p = (s.penLoss .disable p).pen p ∧ u.report p = (s.penLoss .disable p).report p) ∧
        (s.penHead p = h → (s.pen p).state = .disarmed → u.pen p = { s.pen p with deadMark := none }) ∧
        (s.penHead p = h → (s.pen p).state = .armed →
          (u.pen p).state = .armed ∧ (u.pen p).deadMark = none ∧ (u.pen p).window = .opened ∧
          (u.pen p).run = none ∧ (u.pen p).lockout = none ∧ (u.pen p).opts = (s.pen p).opts ∧
          (u.pen p).delay = (s.pen p).delay ∧ (u.pen p).counters = (s.pen p).counters))

/-- What the four registers read (R5, R165, R166, R182): CONTROL.RUN, HEAD A EN, HEAD B EN at bits 0 to 2 and the note enables PAGE, REQUEST, FAULT,
LOST at bits 8 to 11; STATUS.RESETTING, RUNNING, HEAD A SYNCED, HEAD B SYNCED at bits 0 to 3 and the four notes at bits 8 to 11; every other bit 0;
ANCHOR; ATTENTION 0. And the interrupt line is active exactly while a note is set whose enable is 1. -/
def Obligations.RegistersRead : Prop :=
  ∀ s : State,
    (interrupt s = true ↔
      ∃ i, 8 ≤ i ∧ i ≤ 11 ∧ (registerValue s 0).getLsbD i = true ∧ (registerValue s 1).getLsbD i = true) ∧
    (∀ i, (registerValue s 0).getLsbD i =
      match i with
      | 0 => s.regs.run
      | 1 => s.regs.enableA
      | 2 => s.regs.enableB
      | 8 => s.regs.enables.page
      | 9 => s.regs.enables.request
      | 10 => s.regs.enables.fault
      | 11 => s.regs.enables.lost
      | _ => false) ∧
    (∀ i, (registerValue s 1).getLsbD i =
      match i with
      | 0 => s.regs.resetting
      | 1 => s.regs.running
      | 2 => decide (s.heads.a.state = .synced)
      | 3 => decide (s.heads.b.state = .synced)
      | 8 => s.regs.notes.page
      | 9 => s.regs.notes.request
      | 10 => s.regs.notes.fault
      | 11 => s.regs.notes.lost
      | _ => false) ∧
    (registerValue s 2).toNat = s.regs.anchor.toNat ∧ registerValue s 3 = 0

/-! ## The stroke link -/

/-- The note enables, the clearing of notes, ANCHOR and ATTENTION (R165, R166, R171), each changing nothing else; and while RESETTING reads 1 a
write to any register is ignored (R165). -/
def Obligations.OtherRegistersWritten : Prop :=
  (∀ (w : Word) (s : State), s.regs.resetting = false →
    (w.getLsbD 0 = s.regs.run → w.getLsbD 1 = s.regs.enableA → w.getLsbD 2 = s.regs.enableB → w.getLsbD 3 = false →
      exec (.noteEnable w) s =
        .next (State.grant
          { s with
            regs :=
              { s.regs with
                enables :=
                  { page := w.getLsbD 8, request := w.getLsbD 9, fault := w.getLsbD 10, lost := w.getLsbD 11 } } })) ∧
    exec (.noteClear w) s =
      .next
        { s with
          regs :=
            { s.regs with
              notes :=
                { page := s.regs.notes.page && !w.getLsbD 8
                  request := s.regs.notes.request && !w.getLsbD 9
                  fault := s.regs.notes.fault && !w.getLsbD 10
                  lost := s.regs.notes.lost && !w.getLsbD 11 } } } ∧
    exec (.anchor w) s =
      .next
        (if s.regs.running then s
         else { s with regs := { s.regs with anchor := BitVec.ofNat 14 (w.toNat % 16384) } }) ∧
    exec (.attention w) s =
      .next
        (if s.regs.run ∧ s.regs.running then { s with engine := { s.engine with scanPending := true } } else s)) ∧
  (∀ (w : Word) (h : Head) (s : State), s.regs.resetting = true →
    exec (.start w) s = .next s ∧ exec (.runStop w) s = .next s ∧ exec (.headEnable h w) s = .next s ∧
    exec (.headDisable h w) s = .next s ∧ exec (.noteEnable w) s = .next s ∧ exec (.softReset w) s = .next s ∧
    exec (.noteClear w) s = .next s ∧ exec (.anchor w) s = .next s ∧ exec (.attention w) s = .next s)

/-- A step pulse counts in SYNCED up to 1,048,575, where it sets the saturated mark and stops; elsewhere it is ignored (R4). SILENCE_ALIGNMENT brings
the silence timer to its limit from any value (log entry 11), which aligns a receiver that is not OFF and gives up its partial item, one link error if
it held a word (R1, R3); on an OFF head it changes nothing (log entry 2). And how every counter of occurrences counts one and counts several: it
saturates at 65535 (R17, R36, R154). -/
def Obligations.StepPulseAndSilence : Prop :=
  (∀ (h : Head) (s : State),
    exec (.stepPulse h) s =
      .next
        (if (s.head h).state = .synced ∧ (s.head h).step < 1048575 then
          { s with
            heads :=
              s.heads.set h
                { s.head h with
                  step := (s.head h).step + 1
                  saturated := (s.head h).saturated || decide ((s.head h).step + 1 = 1048575) } }
         else s)) ∧
  (∀ (h : Head) (s : State),
    exec (.silenceAlignment h) s =
      .next
        (if (s.head h).state = .off then s
         else
          { s with
            heads :=
              s.heads.set h
                { s.head h with
                  silence := 1000, aligned := true, item := []
                  linkErrors :=
                    if (s.head h).item = [] then (s.head h).linkErrors else satInc (s.head h).linkErrors } })) ∧
  ∀ (c : Counter) (n : Nat),
    (satInc c).toNat = (if c.toNat = 65535 then 65535 else c.toNat + 1) ∧
    (satAdd c n).toNat = min 65535 (c.toNat + n)

/-- A word strobe in OFF is ignored; unaligned it only restarts the silence timer; a good STROKE header begins an item; inside an item the word is
taken as data whatever its value; and a bad header clears the alignment flag and counts one link error (R1, R2, R3), as it is taken (log entry 19).
A word is good when its 16 bits and the parity bit hold an odd number of ones (R1), and a header's item type is its bits 15 to 12 (R181). -/
def Obligations.WordsTaken : Prop :=
  (∀ (h : Head) (w : Word) (parity : Bool) (s : State),
    ((s.head h).state = .off → exec (.wordStrobe h w parity) s = .next s.grant) ∧
    ((s.head h).state ≠ .off → (s.head h).aligned = false →
      exec (.wordStrobe h w parity) s =
        .next (State.grant { s with heads := s.heads.set h { s.head h with silence := 0 } })) ∧
    ((s.head h).state ≠ .off → (s.head h).aligned = true → (s.head h).item ≠ [] → (s.head h).item.length < 6 →
      exec (.wordStrobe h w parity) s =
        .next (State.grant
          { s with
            heads :=
              s.heads.set h
                { s.head h with
                  silence := 0, item := (s.head h).item ++ [{ data := w, good := goodParity w parity }] } })) ∧
    ((s.head h).state ≠ .off → (s.head h).aligned = true → (s.head h).item = [] → goodParity w parity = true →
      headerType w = 2 →
      exec (.wordStrobe h w parity) s =
        .next (State.grant
          { s with heads := s.heads.set h { s.head h with silence := 0, item := [{ data := w, good := true }] } })) ∧
    ((s.head h).state ≠ .off → (s.head h).aligned = true → (s.head h).item = [] →
      (goodParity w parity = false ∨ headerType w ≠ 1 ∧ headerType w ≠ 2) →
      exec (.unknownHeader h w parity) s =
        .next (State.grant
          { s with
            heads :=
              s.heads.set h
                { s.head h with silence := 0, aligned := false, linkErrors := satInc (s.head h).linkErrors } }))) ∧
  ∀ (w : Word) (parity : Bool),
    goodParity w parity =
      decide (((List.range 16).countP (fun i => w.getLsbD i) + (if parity then 1 else 0)) % 2 = 1) ∧
    headerType w = w.toNat / 4096

/-- What the seven words of a STROKE item announce, and when they announce nothing (R3, R181). A STROKE item accepted in SYNCED is stamped and entered
(R13), after the overlap check (R14) and the capacity check (R15), and a target stroke replaces its part of the target record (R16). An item that
fails a check is discarded with one link error and no other effect (R3); an accepted one that is overlong, or taken in SEEKING, has no effect at all
(R6, R13). -/
def Obligations.StrokeItemTaken : Prop :=
  (∀ (h : Head) (w : Word) (parity : Bool) (s : State) (st : Stroke) (older : List Stroke) (newest : Option Stroke),
    (s.head h).state = .synced → (s.head h).aligned = true → (s.head h).saturated = false →
    (s.head h).item.length = 6 →
    strokeOf ((s.head h).item ++ [{ data := w, good := goodParity w parity }]) = some st →
    (s.head h).history = older ++ newest.toList → (newest = none → older = []) →
    (∀ n, newest = some n → n.s0 ≤ (s.head h).step) →
    let x := s.head h
    let cut := newest.any (fun n => decide (x.step < n.s0 + n.eff))
    let kept : List Stroke :=
      older ++
      (newest.toList.filter (fun n => !decide (x.step < n.s0 + n.eff) || decide (n.s0 < x.step))).map
        (fun n => if x.step < n.s0 + n.eff then { n with eff := x.step - n.s0 } else n)
    exec (.stroke h w parity) s =
      .next (State.grant
        { s with
          heads :=
            s.heads.set h
              { x with
                silence := 0
                item := []
                history :=
                  (if 32 ≤ kept.length then kept.drop 1 else kept) ++ [{ st with s0 := x.step, eff := st.len }]
                overwritten := x.overwritten || decide (32 ≤ kept.length)
                overlaps := if cut then satInc x.overlaps else x.overlaps
                forward := if st.tag = 2000 then some { s0 := x.step, len := st.len } else x.forward
                reverse := if st.tag = 2001 then some { s0 := x.step, len := st.len } else x.reverse } })) ∧
  (∀ (h : Head) (hd nm x0 y0 x1 y1 : LinkWord) (w : Word) (parity : Bool) (s : State),
    (s.head h).state ≠ .off → (s.head h).aligned = true → (s.head h).item = [hd, nm, x0, y0, x1, y1] →
    let bad :=
      !(hd.good && nm.good && x0.good && y0.good && x1.good && y1.good && goodParity w parity) ||
      decide (bits hd.data 11 10 = 3) || decide (4095 < x0.data.toNat) || decide (4095 < y0.data.toNat) ||
      decide (4095 < x1.data.toNat) || decide (4095 < y1.data.toNat) || decide (w.toNat = 0) ||
      decide (4095 < w.toNat)
    (bad = true →
      exec (.stroke h w parity) s =
        .next (State.grant
          { s with
            heads :=
              s.heads.set h
                { s.head h with silence := 0, item := [], linkErrors := satInc (s.head h).linkErrors } })) ∧
    (bad = false → ((s.head h).state = .seeking ∨ (s.head h).saturated = true) →
      exec (.stroke h w parity) s =
        .next (State.grant { s with heads := s.heads.set h { s.head h with silence := 0, item := [] } }))) ∧
  ∀ hd nm x0 y0 x1 y1 ln : LinkWord,
    let bad :=
      !(hd.good && nm.good && x0.good && y0.good && x1.good && y1.good && ln.good) ||
      decide (hd.data.toNat / 1024 % 4 = 3) || decide (4095 < x0.data.toNat) || decide (4095 < y0.data.toNat) ||
      decide (4095 < x1.data.toNat) || decide (4095 < y1.data.toNat) || decide (ln.data.toNat = 0) ||
      decide (4095 < ln.data.toNat)
    strokeOf [hd, nm, x0, y0, x1, y1, ln] =
      if bad then none
      else
        some
          { kind :=
              if hd.data.toNat / 1024 % 4 = 0 then .vector else if hd.data.toNat / 1024 % 4 = 1 then .point else .text
            view := Fin.ofNat 4 (hd.data.toNat / 256)
            tag := nm.data.toNat / 16 % 2048
            cls := nm.data.toNat % 16
            x0 := x0.data.toNat, y0 := y0.data.toNat, x1 := x1.data.toNat, y1 := y1.data.toNat
            len := ln.data.toNat, s0 := 0, eff := ln.data.toNat }

/-- A FRAME START accepted in SYNCED, at the receiver and beyond it (R7, R8, R9, R10, R171): steps 1 to 6, the waiting slot's answer ahead of every
other (log entry 16), the signal at each pen assigned to the head and at its report path, a pending switch at a boundary, the scan event, a pen that
a SINGLE completion disarms dropping its awaiting MENU record and ending its centre access (R124, R132), and nothing at the other head, its context
store or the pens not assigned to this head. And what the signal does at a pen (R32, R33, R89): the judgements, the boundary close (also of a pen
whose calibration those judgements have ended, log entry 17), the held-frame mark with a hold's disturbance, and the boundary at the report path. -/
def Obligations.FrameStartTaken : Prop :=
  (∀ (h : Head) (w : Word) (s : State), (s.head h).state = .synced → (s.head h).aligned = true →
    (s.head h).item = [] → headerType w = 1 →
    let x := s.head h
    let boundary := !x.hold && decide (x.windowCount + 1 = s.windowLength h)
    let held := if x.holdPending then !x.hold else x.hold
    let received : HeadRx :=
      { x with
        silence := 0, step := 0, saturated := false, history := [], overwritten := false, forward := none,
        reverse := none, frame := x.frame + 1, linkTimer := 0
        windowCount :=
          if x.hold then x.windowCount
          else if x.windowCount + 1 = s.windowLength h then 0 else x.windowCount + 1
        hold := held
        holdPending := false
        waitingSlot := if x.holdPending then none else x.waitingSlot }
    let waiting : List Result :=
      match x.holdPending, x.waitingSlot with
      | true, some slot => [{ slot := slot, code := 0, value := 0 }]
      | _, _ => []
    let signal := State.signalPen (x.frame + 1) boundary held false
    let gone : Pen → Bool := fun p =>
      decide (s.penHead p = h) && decide ((s.pen p).state ≠ .disarmed) && decide (((signal s p).pen p).state = .disarmed)
    let signalled :=
      State.forPensOn
        { s with
          heads := s.heads.set h received, engine := { s.engine with results := s.engine.results ++ waiting } } h signal
    let switched := if boundary then signalled.boundarySwitch h else signalled
    ∃ u : State, exec (.frameStart h w) s = .next u.grant ∧
      u = { switched with engine := { switched.engine with scanPending := true } } ∧
      u.head h = received ∧
      (∃ mid, u.engine = { s.engine with scanPending := true, results := s.engine.results ++ waiting ++ mid }) ∧
      (∀ k, k ≠ h → u.head k = s.head k ∧ u.store k = s.store k) ∧
      (x.hold = true ∨ x.windowCount + 1 ≠ s.windowLength h → u.store h = s.store h) ∧
      u.regs = { s.regs with notes := { s.regs.notes with lost := u.regs.notes.lost } } ∧
      (∀ k,
        u.menu k =
          { s.menu k with
            load :=
              (s.menu k).load.map (fun l =>
                { l with
                  origin :=
                    match l.origin with
                    | .pageButton (some await) => .pageButton (if gone await.pen then none else some await)
                    | .backButton (some await) => .backButton (if gone await.pen then none else some await)
                    | origin => origin }) }) ∧
      u.port =
        s.port.map (fun a =>
          match a.purpose with
          | .centreWord p _ => if gone p = true ∧ a.delivery = .live then { a with delivery := .ended } else a
          | _ => a) ∧
      u.pending = s.pending ∧
      ∀ p, (s.penHead p ≠ h → u.pen p = s.pen p ∧ u.report p = s.report p) ∧
        (s.penHead p = h →
          let there := signal s p
          let after := if boundary && (s.store h).switchPending.isSome then there.switchPen p else there
          u.pen p = after.pen p ∧ u.report p = after.report p)) ∧
  ∀ (p : Pen) (frame : Long) (boundary held sync : Bool) (s : State),
    let c := s.pen p
    let judged := if c.heldMark = false ∧ sync = false then s.judgePen p frame boundary else s
    let j := judged.pen p
    let closed := if boundary = true ∧ j.state = .armed ∧ j.opts.mode = .pick then judged.decision p .boundary frame else judged
    let d := closed.pen p
    let atPath : State → State := fun t => if boundary then t.reportBoundary p else t
    let disturbed := held = true ∧ c.heldMark = false ∧ d.state = .calibrating
    (c.state = .disarmed → s.signalPen frame boundary held sync p = atPath s) ∧
    (c.state ≠ .disarmed → ¬ disturbed →
      s.signalPen frame boundary held sync p =
        atPath { closed with pens := closed.pens.set p { d with heldMark := held } }) ∧
    (∀ k, c.state ≠ .disarmed → disturbed → d.calib = some k →
      s.signalPen frame boundary held sync p =
        atPath
          { closed with
            pens :=
              closed.pens.set p
                { d with
                  heldMark := true, state := .armed, calib := none
                  window := { table := [], idle := 0, crowded := false, nextArrival := 1 }
                  track := { d.track with sumX := 0, nX := 0, sumY := 0, nY := 0 } }
            engine :=
              { closed.engine with
                results :=
                  closed.engine.results ++ [{ slot := k.slot, code := 12, value := BitVec.ofNat 16 k.good }] } }) ∧
    (c.state = .armed → c.opts.mode = .pick →
      s.judgePen p frame boundary = (if boundary then s else s.idleJudgement p frame).runJudgement p frame) ∧
    (c.state = .armed → c.opts.mode = .track →
      s.judgePen p frame boundary = (s.runJudgement p frame).missJudgement p frame) ∧
    (c.state = .calibrating →
      s.judgePen p frame boundary = (s.runJudgement p frame).calibrationJudgement p)

/-- The synchronising frame start (R6): SYNCED, count 0, a pending hold or release applied, the signal at each pen assigned to the head without
judgements and at its report path, and a boundary that carries out a pending switch (R65, R67); a pen that a SINGLE completion disarms drops its
awaiting MENU record and ends its centre access (R124, R132). The answers come in the model's order: the waiting slot, the calibrations, the switch
(log entry 16). -/
def Obligations.SynchronisingFrameStartTaken : Prop :=
  ∀ (h : Head) (w : Word) (s : State), (s.head h).state = .seeking → (s.head h).aligned = true →
    (s.head h).item = [] → headerType w = 1 →
    let x := s.head h
    let held := if x.holdPending then !x.hold else x.hold
    let received : HeadRx :=
      { x with
        state := .synced, silence := 0, step := 0, saturated := false, history := [], overwritten := false,
        forward := none, reverse := none, frame := x.frame + 1, linkTimer := 0, windowCount := 0
        hold := held
        holdPending := false
        waitingSlot := if x.holdPending then none else x.waitingSlot }
    let waiting : List Result :=
      match x.holdPending, x.waitingSlot with
      | true, some slot => [{ slot := slot, code := 0, value := 0 }]
      | _, _ => []
    let signal := State.signalPen (x.frame + 1) true held true
    let gone : Pen → Bool := fun p =>
      decide (s.penHead p = h) && decide ((s.pen p).state ≠ .disarmed) && decide (((signal s p).pen p).state = .disarmed)
    let switched :=
      State.boundarySwitch
        (State.forPensOn
          { s with
            heads := s.heads.set h received, engine := { s.engine with results := s.engine.results ++ waiting } } h signal) h
    ∃ u : State, exec (.synchronisingFrameStart h w) s = .next u.grant ∧
      u = { switched with engine := { switched.engine with scanPending := true } } ∧
      u.head h = received ∧
      u.store h =
        { s.store h with
          active := if (s.store h).switchPending.isSome then (s.store h).active.other else (s.store h).active
          switchPending := none } ∧
      (∃ mid,
        u.engine =
          { s.engine with
            scanPending := true
            results :=
              s.engine.results ++ waiting ++ mid ++
              (match (s.store h).switchPending with
                | some slot =>
                  [{ slot := slot, code := 0, value := if (s.store h).active = .A then 1 else 0 }]
                | none => []) }) ∧
      (∀ k, k ≠ h → u.head k = s.head k ∧ u.store k = s.store k) ∧
      u.regs = { s.regs with notes := { s.regs.notes with lost := u.regs.notes.lost } } ∧
      (∀ k,
        u.menu k =
          { s.menu k with
            load :=
              (s.menu k).load.map (fun l =>
                { l with
                  origin :=
                    match l.origin with
                    | .pageButton (some await) => .pageButton (if gone await.pen then none else some await)
                    | .backButton (some await) => .backButton (if gone await.pen then none else some await)
                    | origin => origin }) }) ∧
      u.port =
        s.port.map (fun a =>
          match a.purpose with
          | .centreWord p _ => if gone p = true ∧ a.delivery = .live then { a with delivery := .ended } else a
          | _ => a) ∧
      u.pending = s.pending ∧
      ∀ p, (s.penHead p ≠ h → u.pen p = s.pen p ∧ u.report p = s.report p) ∧
        (s.penHead p = h →
          let there := signal s p
          let after := if (s.store h).switchPending.isSome then there.switchPen p else there
          u.pen p = after.pen p ∧ u.report p = after.report p)

/-- A link loss of a SYNCED head (R5, R11, R34): SEEKING, counted, FAULT set; the frame number, the count of the window, the hold and the waiting slot
kept; contexts and menus untouched; the calibrations of its pens answered FAILED DISTURBED by pen number (log entry 16). And what a link loss or a
disable does at a pen and its report path: an ABORT record for a table with entries (R82), a TRACK LOST record and LOST for a cross in TRACKING (R137,
R142), a calibration ended (R34, R149), runs and sums dropped, and the dead-time mark gone in every pen state (R20; log entry 24). -/
def Obligations.LinkLost : Prop :=
  (∀ (h : Head) (s : State), (s.head h).state = .synced →
    ∃ u : State, exec (.linkLoss h) s = .next u.grant ∧
      u.head h =
        { s.head h with
          state := .seeking, aligned := false, silence := 0, item := [], step := 0, saturated := false,
          history := [], overwritten := false, forward := none, reverse := none
          linkTimer := (u.head h).linkTimer, linkLosses := satInc (s.head h).linkLosses } ∧
      (∀ k, k ≠ h → u.head k = s.head k) ∧ u.ctx = s.ctx ∧ u.menus = s.menus ∧ u.port = s.port ∧
      u.regs = { s.regs with notes := { s.regs.notes with fault := true, lost := u.regs.notes.lost } } ∧
      u.pending = s.pending ∧
      u.regs.notes.lost =
        (s.regs.notes.lost || allPens.any (fun p => decide (s.penHead p = h) && (s.penLoss .linkLoss p).regs.notes.lost)) ∧
      u.engine =
        { s.engine with
          results :=
            s.engine.results ++
            allPens.flatMap (fun p =>
              if s.penHead p = h then
                match (s.pen p).state, (s.pen p).calib with
                | .calibrating, some k => [{ slot := k.slot, code := 12, value := BitVec.ofNat 16 k.good }]
                | _, _ => []
              else []) } ∧
      ∀ p, (s.penHead p ≠ h → u.pen p = s.pen p ∧ u.report p = s.report p) ∧
        (s.penHead p = h →
          u.pen p = (s.penLoss .linkLoss p).pen p ∧ u.report p = (s.penLoss .linkLoss p).report p) ∧
        (s.penHead p = h → (s.pen p).state = .disarmed → u.pen p = { s.pen p with deadMark := none }) ∧
        (s.penHead p = h → (s.pen p).state = .armed →
          (u.pen p).state = .armed ∧ (u.pen p).deadMark = none ∧ (u.pen p).window = .opened ∧
          (u.pen p).run = none ∧ (u.pen p).lockout = none ∧ (u.pen p).opts = (s.pen p).opts ∧
          (u.pen p).delay = (s.pen p).delay ∧ (u.pen p).counters = (s.pen p).counters ∧
          ((s.pen p).opts.mode = .track →
            (u.pen p).track.fix ≠ .tracking ∧ (u.pen p).track.nX = 0 ∧ (u.pen p).track.nY = 0 ∧
            (u.pen p).track.cx = (s.pen p).track.cx ∧ (u.pen p).track.cy = (s.pen p).track.cy))) ∧
  ∀ (cause : LossCause) (p : Pen) (s : State),
    let c := s.pen p
    let frame := (s.head (s.penHead p)).frame
    let aborted := if c.window.table = [] then s else s.stage p (.abort cause c.window.table.length frame)
    let lost : State → State := fun t => t.stage p (.trackLost c.track.cx c.track.cy cause frame)
    let away : Tracking → PenChannel := fun t =>
      { c with
        deadMark := none, run := none, lockout := none, track := t
        window := { table := [], idle := 0, crowded := false, nextArrival := 1 } }
    let dropped : Tracking := { c.track with sumX := 0, nX := 0, sumY := 0, nY := 0 }
    let put : State → PenChannel → State := fun t d => { t with pens := s.pens.set p d }
    (c.state = .disarmed → s.penLoss cause p = put s { c with deadMark := none }) ∧
    (c.state = .armed → c.opts.mode = .pick → s.penLoss cause p = put aborted (away c.track)) ∧
    (c.state = .armed → c.opts.mode = .track → c.window.table = [] →
      (c.track.fix = .tracking → s.penLoss cause p = put (lost s) (away { dropped with fix := .lost, miss := 0 })) ∧
      (c.track.fix ≠ .tracking → s.penLoss cause p = put s (away { dropped with miss := 0 }))) ∧
    ∀ k, c.state = .calibrating → c.calib = some k →
      let ended : Tracking → PenChannel := fun t => { away t with state := .armed, calib := none }
      let answered : State :=
        { s with
          engine :=
            { s.engine with
              results := s.engine.results ++ [{ slot := k.slot, code := 12, value := BitVec.ofNat 16 k.good }] } }
      (c.opts.mode = .pick → s.penLoss cause p = put answered (ended dropped)) ∧
      (c.opts.mode = .track → c.track.fix = .tracking →
        s.penLoss cause p = put (lost answered) (ended { dropped with fix := .lost, miss := 0 })) ∧
      (c.opts.mode = .track → c.track.fix ≠ .tracking → s.penLoss cause p = put answered (ended { dropped with miss := 0 }))

/-! ## Pens -/

/-- A tip change that is no release changes the tip state alone (R19, R78, R138). A tip open of a TRACK pen in TRACKING or LOST stages its FINAL
record and leaves NO FIX with the reference at the centre; a SINGLE pen then disarms (R30, R138). -/
def Obligations.TipChangesAndTrackRelease : Prop :=
  (∀ (p : Pen) (s : State),
    exec (.tipClose p) s = .next { s with pens := s.pens.set p { s.pen p with tipClosed := true } } ∧
    ((s.pen p).state ≠ .armed ∨
      (s.pen p).opts.mode = .pick ∧ ((s.pen p).opts.gated = false ∨ (s.pen p).window.table = []) ∨
      (s.pen p).opts.mode = .track ∧ (s.pen p).track.fix = .noFix →
      exec (.tipOpen p) s =
        .next (State.grant { s with pens := s.pens.set p { s.pen p with tipClosed := false } }))) ∧
  (∀ (p : Pen) (s : State), (s.pen p).state = .armed → (s.pen p).opts.mode = .track → (s.pen p).track.fix ≠ .noFix →
    let c := s.pen p
    let record : Record :=
      .track
        { x := c.track.cx, y := c.track.cy, final := true, frame := (s.head c.opts.head).frame
          loft :=
            match s.activeCtx c.opts.head with
            | some ws => convert ws c.opts.view c.track.cx c.track.cy
            | none =>
              { axes := .none, first := 0, second := 0, clamp1 := false, clamp2 := false, grid1 := false,
                grid2 := false } }
    let t : State :=
      { s.stage p record with
        pens :=
          s.pens.set p
            { c with
              tipClosed := false
              track :=
                { c.track with
                  fix := .noFix, sumX := 0, nX := 0, sumY := 0, nY := 0, miss := 0, rx := c.track.cx,
                  ry := c.track.cy } } }
    exec (.tipOpen p) s = .next (if c.opts.single then (t.disarm p).grant else t.grant))

/-- The winner of a decision, and what a decision does (R84, R85, R86, R88, R89): the eligible entry with the highest rank, then the most
hits, then the lowest arrival makes a PICK record, which completes a SINGLE pen; with no eligible entry, as while the active slot is not VALID, EMPTY
is counted; and the window opens anew. -/
def Obligations.WindowDecided : Prop :=
  ∀ (p : Pen) (s : State) (reason : CloseReason) (frame : Long),
    let c := s.pen p
    let fresh : WindowState := { table := [], idle := 0, crowded := false, nextArrival := 1 }
    let empty : State :=
      { s with
        pens :=
          s.pens.set p { c with window := fresh, counters := { c.counters with empty := satInc c.counters.empty } } }
    (s.activeCtx (s.penHead p) = none → s.decision p reason frame = empty) ∧
    ∀ ws, s.activeCtx (s.penHead p) = some ws →
    ((∀ e ∈ c.window.table, e.hits < ctxMinHits ws) → s.decision p reason frame = empty) ∧
    ∀ e ∈ c.window.table, ctxMinHits ws ≤ e.hits →
      (∀ d ∈ c.window.table, ctxMinHits ws ≤ d.hits → d ≠ e →
        ctxRank ws d.cls < ctxRank ws e.cls ∨
        ctxRank ws d.cls = ctxRank ws e.cls ∧ (d.hits < e.hits ∨ d.hits = e.hits ∧ e.arrival < d.arrival)) →
      let eligible := c.window.table.filter (fun d => decide (ctxMinHits ws ≤ d.hits))
      let x := (e.sumX + e.hits / 2) / e.hits
      let y := (e.sumY + e.hits / 2) / e.hits
      let record : Record :=
        .pick
          { tag := e.tag, cls := e.cls, view := e.view, hits := e.hits, eligible := eligible.length, x := x, y := y
            loft := convert ws e.view x y, crowded := c.window.crowded, reason := reason, frame := frame
            tie := decide (2 ≤ eligible.countP (fun d => decide (ctxRank ws d.cls = ctxRank ws e.cls))) }
      let t : State := { s.stage p record with pens := s.pens.set p { c with window := fresh } }
      s.decision p reason frame = if c.opts.single then t.disarm p else t

/-- Where the three kinds of close make a decision: a release of a GATED PICK pen with entries, the idle judgement, and a boundary, which
decides whatever the table holds (R77, R78, R79). -/
def Obligations.WindowCloses : Prop :=
  ∀ (p : Pen) (s : State), (s.pen p).state = .armed → (s.pen p).opts.mode = .pick →
    let c := s.pen p
    (c.opts.gated = true → c.window.table ≠ [] →
      exec (.tipOpen p) s =
        .next (State.grant (State.decision { s with pens := s.pens.set p { c with tipClosed := false } } p .release
          (s.head c.opts.head).frame))) ∧
    (∀ frame, s.closeAtBoundary p frame = s.decision p .boundary frame) ∧
    ∀ (frame : Long) (ws : List Word), s.activeCtx c.opts.head = some ws →
      (ctxIdle ws = 0 ∨ c.window.table = [] ∨ (∃ e ∈ c.window.table, e.lastHit = frame - 1) →
        s.idleJudgement p frame = s) ∧
      (ctxIdle ws ≠ 0 → c.window.table ≠ [] → (∀ e ∈ c.window.table, e.lastHit ≠ frame - 1) →
        let t : State := { s with pens := s.pens.set p { c with window := { c.window with idle := c.window.idle + 1 } } }
        s.idleJudgement p frame = if c.window.idle + 1 = ctxIdle ws then t.decision p .idle frame else t)

/-- A pulse that dead time drops changes nothing; a hit that meets a condition of R22 counts in HITS and IGNORED alone and sets the dead-time mark; an
unmatched hit and a FOREIGN hit count likewise, and the unmatched one leaves its reason (R20, R21, R22, R44, R48, R53). A matched hit is handed over
as a classified hit with every content of R47, its category by R48 and R49. -/
def Obligations.PulsesCountedOnly : Prop :=
  ∀ (p : Pen) (s : State),
    let x := s.head (s.penHead p)
    let c := s.penAfterHit p
    let result : PenChannel → Prop := fun d => exec (.penPulse p) s = .next (State.grant { s with pens := s.pens.set p d })
    (s.regs.resetting = false → (∀ k, (s.pen p).deadMark = some (x.frame, k) → x.step < k + 8 →
      exec (.penPulse p) s = .next s.grant)) ∧
    (s.hitTaken p →
      ((s.pen p).state = .disarmed ∨ x.state ≠ .synced ∨ x.hold = true ∨
        (s.pen p).state = .armed ∧ s.activeCtx (s.penHead p) = none) →
      result { c with counters := { c.counters with ignored := satInc c.counters.ignored } }) ∧
    ∀ ws, s.hitCorrelated p ws →
      (∀ why, s.correlated p = .error why →
        result
          { c with
            counters := { c.counters with unmatched := satInc c.counters.unmatched }
            lastUnmatched := some (why, x.frame) }) ∧
      (∀ st k, s.correlated p = .ok (st, k) →
        (st.tag ≤ 1983 ∧ (st.cls = 14 ∨ st.cls ≠ 15 ∧ c.opts.mode = .track) ∨
          1984 ≤ st.tag ∧ st.tag ≤ 1999 ∧ ((st.tag - 1984) / 4 ≠ penNumber p ∨ c.opts.mode = .pick) ∨
          2000 ≤ st.tag) →
        result { c with counters := { c.counters with foreign := satInc c.counters.foreign } }) ∧
      ∀ st k, s.correlated p = .ok (st, k) →
        exec (.penPulse p) s =
          .next (State.grant
            (State.deliverHit { s with pens := s.pens.set p c }
              { pen := p, frame := x.frame, step := x.step, eff := x.step - c.delay, tag := st.tag, cls := st.cls
                view := st.view, kind := st.kind, offset := k, x := (positionOf st k).1, y := (positionOf st k).2
                slot := (s.store (s.penHead p)).active, ctx := ws
                cat :=
                  if st.tag ≤ 1983 then
                    if st.cls = 15 then .menu
                    else if st.cls = 14 ∨ c.opts.mode = .track then .foreign else .drawing
                  else if st.tag ≤ 1999 ∧ (st.tag - 1984) / 4 = penNumber p ∧ c.opts.mode = .track then
                    .ownArm ((st.tag - 1984) % 4)
                  else .foreign }))

/-- What a hit is tied to (R39, R40, R41, R42): the newest stroke that starts no later than the effective step, within its span. -/
def Obligations.CorrelationOutcome : Prop :=
  ∀ (x : HeadRx) (delay h : Nat) (saturated : Bool),
    (h < delay → correlate x delay h saturated = .error .early) ∧
    (delay ≤ h → saturated = true → correlate x delay h saturated = .error .overlong) ∧
    (delay ≤ h → saturated = false → (∀ e ∈ x.history, h - delay < e.s0) →
      correlate x delay h saturated = .error (if x.overwritten then .aged else .gap)) ∧
    ∀ (older newer : List Stroke) (st : Stroke), delay ≤ h → saturated = false →
      x.history = older ++ st :: newer → st.s0 ≤ h - delay → (∀ e ∈ newer, h - delay < e.s0) →
      correlate x delay h saturated =
        if st.s0 + st.eff ≤ h - delay then .error .gap else .ok (st, h - delay - st.s0)

/-- The position of a matched hit (R45, R46): a POINT's or TEXT's origin; on a VECTOR, per axis, the interpolated point rounded half away
from zero, which lies between the end points. -/
def Obligations.PositionOnStroke : Prop :=
  ∀ (st : Stroke) (k : Nat),
    (st.kind ≠ .vector → positionOf st k = (st.x0, st.y0)) ∧
    (st.kind = .vector →
      positionOf st k =
        ( if st.x0 ≤ st.x1 then st.x0 + (2 * (st.x1 - st.x0) * k + st.len) / (2 * st.len)
          else st.x0 - (2 * (st.x0 - st.x1) * k + st.len) / (2 * st.len),
          if st.y0 ≤ st.y1 then st.y0 + (2 * (st.y1 - st.y0) * k + st.len) / (2 * st.len)
          else st.y0 - (2 * (st.y0 - st.y1) * k + st.len) / (2 * st.len) ) ∧
      (k < st.len →
        min st.x0 st.x1 ≤ (positionOf st k).1 ∧ (positionOf st k).1 ≤ max st.x0 st.x1 ∧
        min st.y0 st.y1 ≤ (positionOf st k).2 ∧ (positionOf st k).2 ≤ max st.y0 st.y1))

/-- The conversion of one axis (R98 to R102): scaled exactly and rounded half away from zero, placed and flipped, snapped to the nearest multiple of
the grid with a half away from zero, and clamped, with its two flags. And the conversion of a position (R96, R97): each axis through its own fields of
the view record, as R184 packs them, with the axis pair. -/
def Obligations.AxisConverted : Prop :=
  (∀ (a : AxisFields) (pos : Nat), a.min ≤ a.max →
    let d : Int := (pos : Int) - a.s0
    let p := scaleStage a d
    let t := if a.flip then a.o - p else a.o + p
    let g := gridStage a t
    (2 * (p.natAbs * 65536) ≤ 2 * d.natAbs * a.g + 65536 ∧ 2 * d.natAbs * a.g < 2 * (p.natAbs * 65536) + 65536 ∧
      0 ≤ p * d) ∧
    (a.grid = 0 → g = t) ∧
    (a.grid ≠ 0 → (∃ n : Int, g = n * a.grid) ∧ 2 * (g - t).natAbs ≤ a.grid ∧
      (2 * (g - t).natAbs = a.grid → t.natAbs < g.natAbs) ∧ 0 ≤ g * t) ∧
    convertAxis a pos = (max a.min (min a.max g), decide (g < a.min ∨ a.max < g), decide (g ≠ t)) ∧
    a.min ≤ (convertAxis a pos).1 ∧ (convertAxis a pos).1 ≤ a.max) ∧
  ∀ (ws : List Word) (v : View) (x y : Nat),
    let word : Nat → Word := fun j => ws[144 + 24 * v.val + j]?.getD 0
    let unsigned : Nat → Nat := fun j => (word (j + 1)).toNat * 65536 + (word j).toNat
    let signed : Nat → Int := fun j =>
      if unsigned j < 2147483648 then (unsigned j : Int) else (unsigned j : Int) - 4294967296
    let first : AxisFields :=
      { s0 := (word 0).toNat, g := unsigned 8, flip := (word 2).getLsbD 8, o := signed 4, grid := unsigned 20
        min := signed 12, max := signed 14 }
    let second : AxisFields :=
      { s0 := (word 1).toNat, g := unsigned 10, flip := (word 2).getLsbD 9, o := signed 6, grid := unsigned 22
        min := signed 16, max := signed 18 }
    (word 2).toNat % 256 ≤ 2 →
    convert ws v x y =
      { axes := if (word 2).toNat % 256 = 0 then .xy else if (word 2).toNat % 256 = 1 then .xz else .yz
        first := (convertAxis first x).1, clamp1 := (convertAxis first x).2.1, grid1 := (convertAxis first x).2.2
        second := (convertAxis second y).1, clamp2 := (convertAxis second y).2.1, grid2 := (convertAxis second y).2.2 }

/-- A DRAWING hit of a PICK pen (R52, R74, R75): filtered, added to its entry, entered as a new one, or crowded out. -/
def Obligations.DrawingHitTaken : Prop :=
  ∀ (p : Pen) (s : State) (ws : List Word) (st : Stroke) (k : Nat),
    s.hitCorrelated p ws → s.correlated p = .ok (st, k) → (s.pen p).opts.mode = .pick → st.tag ≤ 1983 → st.cls ≤ 13 →
    let c := s.penAfterHit p
    let frame := (s.head (s.penHead p)).frame
    let pos := positionOf st k
    let w := c.window
    let filtered :=
      c.opts.gated && !c.tipClosed || !(ctxWord ws 128).getLsbD st.cls ||
      !(ctxWord ws (st.tag / 16)).getLsbD (st.tag % 16)
    let result : PenChannel → Prop := fun d => exec (.penPulse p) s = .next (State.grant { s with pens := s.pens.set p d })
    (filtered = true → result { c with counters := { c.counters with filtered := satInc c.counters.filtered } }) ∧
    (filtered = false →
      (∀ (before behind : List Candidate) (e : Candidate), w.table = before ++ e :: behind →
        e.tag = st.tag → e.view = st.view →
        (∀ d ∈ before ++ behind, ¬ (d.tag = st.tag ∧ d.view = st.view)) →
        result
          { c with
            window :=
              { w with
                idle := 0
                table :=
                  before ++
                  (if e.hits < 255 then
                    { e with
                      hits := e.hits + 1, sumX := e.sumX + pos.1, sumY := e.sumY + pos.2, lastHit := frame }
                   else { e with lastHit := frame }) :: behind } }) ∧
      ((∀ d ∈ w.table, ¬ (d.tag = st.tag ∧ d.view = st.view)) → w.table.length < 8 →
        result
          { c with
            window :=
              { w with
                idle := 0, nextArrival := w.nextArrival + 1
                table :=
                  w.table ++
                  [{ tag := st.tag, cls := st.cls, view := st.view, hits := 1, sumX := pos.1, sumY := pos.2,
                     arrival := w.nextArrival, lastHit := frame }] } }) ∧
      ((∀ d ∈ w.table, ¬ (d.tag = st.tag ∧ d.view = st.view)) → 8 ≤ w.table.length →
        result
          { c with
            window := { w with crowded := true }
            counters := { c.counters with crowded := satInc c.counters.crowded } }))

/-- An OWN ARM hit (R49, R133, R134): filtered by the gate; else summed on its axis, and where that completes the average, the centre moves within the
fence with a centre write where it changed, and a TRACK record is staged beyond the dead band. And the miss judgement of a frame without such a hit
(R136), which loses the cross at LOSS with a TRACK LOST record (R137). -/
def Obligations.OwnArmHitTaken : Prop :=
  (∀ (p : Pen) (s : State) (ws : List Word) (st : Stroke) (k : Nat) (f : Fence),
    s.hitCorrelated p ws → s.correlated p = .ok (st, k) → (s.pen p).opts.mode = .track →
    1984 + 4 * penNumber p ≤ st.tag → st.tag ≤ 1987 + 4 * penNumber p → (s.pen p).track.fence = some f →
    let c := s.penAfterHit p
    let t := c.track
    let frame := (s.head (s.penHead p)).frame
    let onX := decide ((st.tag - 1984) % 4 < 2)
    let pos := positionOf st k
    let n := if onX then t.nX + 1 else t.nY + 1
    let sum := if onX then t.sumX + pos.1 else t.sumY + pos.2
    let avg := ctxAvg ws
    let fixed : Tracking := { t with miss := 0, lastArm := some frame, fix := .tracking }
    let mean := (sum + avg / 2) / avg
    let cx := if onX then max f.xmin (min f.xmax mean) else t.cx
    let cy := if onX then t.cy else max f.ymin (min f.ymax mean)
    let moved : Tracking :=
      { (if onX then { fixed with sumX := 0, nX := 0 } else { fixed with sumY := 0, nY := 0 }) with
        cx := cx, cy := cy
        centre :=
          if cx = t.cx ∧ cy = t.cy then t.centre
          else match t.centre with
            | .idle => .writing
            | .writing | .writingAgain => .writingAgain
        second := if cx = t.cx ∧ cy = t.cy ∨ t.centre ≠ .idle then t.second else false }
    let near := decide (Int.natAbs ((cx : Int) - t.rx) ≤ ctxDeadBand ws ∧ Int.natAbs ((cy : Int) - t.ry) ≤ ctxDeadBand ws)
    f.xmin ≤ f.xmax → f.ymin ≤ f.ymax →
    (c.opts.gated = true ∧ c.tipClosed = false →
      exec (.penPulse p) s =
        .next (State.grant
          { s with
            pens :=
              s.pens.set p { c with counters := { c.counters with filtered := satInc c.counters.filtered } } })) ∧
    (¬ (c.opts.gated = true ∧ c.tipClosed = false) → n ≠ avg →
      exec (.penPulse p) s =
        .next (State.grant
          { s with
            pens :=
              s.pens.set p
                { c with
                  track :=
                    if onX then { fixed with sumX := sum, nX := n } else { fixed with sumY := sum, nY := n } } })) ∧
    (¬ (c.opts.gated = true ∧ c.tipClosed = false) → n = avg → near = true →
      exec (.penPulse p) s = .next (State.grant { s with pens := s.pens.set p { c with track := moved } })) ∧
    (¬ (c.opts.gated = true ∧ c.tipClosed = false) → n = avg → near = false →
      exec (.penPulse p) s =
        .next (State.grant
          { s.stage p
              (.track
                { x := cx, y := cy, loft := convert ws c.opts.view cx cy, final := false, frame := frame }) with
            pens := s.pens.set p { c with track := { moved with rx := cx, ry := cy } } }))) ∧
  ∀ (p : Pen) (frame : Long) (s : State),
    let c := s.pen p
    (s.activeCtx (s.penHead p) = none ∨ c.track.fix ≠ .tracking ∨ c.track.lastArm = some (frame - 1) →
      s.missJudgement p frame = s) ∧
    ∀ ws, s.activeCtx (s.penHead p) = some ws → c.track.fix = .tracking → c.track.lastArm ≠ some (frame - 1) →
      (c.track.miss + 1 < ctxLoss ws →
        s.missJudgement p frame =
          { s with pens := s.pens.set p { c with track := { c.track with miss := c.track.miss + 1 } } }) ∧
      (ctxLoss ws ≤ c.track.miss + 1 →
        s.missJudgement p frame =
          { s.stage p (.trackLost c.track.cx c.track.cy .misses frame) with
            pens :=
              s.pens.set p
                { c with track := { c.track with fix := .lost, sumX := 0, nX := 0, sumY := 0, nY := 0, miss := 0 } } })

/-- A MENU hit (R51, R115): counted MENU BUSY during a load, FILTERED off the table, taken by the lockout, or counted in the confirm run, which
confirms its button at K. And the judgement of run and lockout at a judged frame start (R116, R145): a CALIBRATING pen's lapse, whenever they were
last hit (log entry 32), and an ARMED pen's lapse unless they were hit in the frame just ended. -/
def Obligations.MenuHitTaken : Prop :=
  (∀ (p : Pen) (s : State) (ws : List Word) (st : Stroke) (k : Nat),
    s.hitCorrelated p ws → s.correlated p = .ok (st, k) → st.tag ≤ 1983 → st.cls = 15 →
    let c := s.penAfterHit p
    let m := s.menu (s.penHead p)
    let frame := (s.head (s.penHead p)).frame
    let result : PenChannel → Prop := fun d => exec (.penPulse p) s = .next (State.grant { s with pens := s.pens.set p d })
    (m.load ≠ none → result { c with counters := { c.counters with menuBusy := satInc c.counters.menuBusy } }) ∧
    (m.load = none → (∀ b ∈ m.table, b.tag ≠ st.tag) →
      result { c with counters := { c.counters with filtered := satInc c.counters.filtered } }) ∧
    ∀ (b : Nat) (btn : Button), m.load = none → m.table[b]? = some btn → btn.tag = st.tag →
      (∀ j other, m.table[j]? = some other → other.tag = st.tag → j = b) →
      let count :=
        match c.run with
        | some r => if r.button = b ∧ r.last = frame then r.count else if r.button = b ∧ r.last = frame - 1 then r.count + 1 else 1
        | none => 1
      (∀ f, c.lockout = some { button := b, last := f } → result { c with lockout := some { button := b, last := frame } }) ∧
      ((∀ f, c.lockout ≠ some { button := b, last := f }) → btn.kind ≠ .escape → count ≠ ctxK ws →
        result { c with run := some { button := b, count := count, last := frame } }) ∧
      ((∀ f, c.lockout ≠ some { button := b, last := f }) → (btn.kind = .escape ∨ count = ctxK ws) →
        let locked : State :=
          { s with
            pens := s.pens.set p { c with run := none, lockout := some { button := b, last := frame } } }
        exec (.penPulse p) s = .next (locked.confirm p b btn frame).grant)) ∧
  ∀ (p : Pen) (frame : Long) (s : State),
    s.runJudgement p frame =
      { s with
        pens :=
          s.pens.set p
            { s.pen p with
              run :=
                match (s.pen p).run with
                | some r => if (s.pen p).state ≠ .calibrating ∧ r.last = frame - 1 then some r else none
                | none => none
              lockout :=
                match (s.pen p).lockout with
                | some l => if (s.pen p).state ≠ .calibrating ∧ l.last = frame - 1 then some l else none
                | none => none } }

/-- A confirmation by button kind (R118 to R124): what the menu unit and the pen become, and the MENU record staged or set aside. -/
def Obligations.ButtonConfirmed : Prop :=
  ∀ (p : Pen) (s : State) (b : Nat) (btn : Button) (frame : Long) (cur : CurrentPage) (before behind : List Button),
    let h := s.penHead p
    let m := s.menu h
    m.current = some cur → m.table = before ++ btn :: behind → before.length = b →
    let c : PenChannel := { s.pen p with window := { table := [], idle := 0, crowded := false, nextArrival := 1 } }
    let record : Bool → MenuStatus → MenuRecord := fun st status =>
      { index := b, kind := btn.kind, state := st, page := cur.number, action := btn.action, status := status,
        frame := frame }
    let staged : MenuUnit → PenChannel → Bool → MenuStatus → State := fun n d st status =>
      State.stage { s with menus := s.menus.set h n, pens := s.pens.set p d } p (.menu (record st status))
    let loads : List Nat → Nat → (Option Await → LoadOrigin) → State := fun stack page origin =>
      { s with
        menus :=
          s.menus.set h
            { m with
              stack := stack, staging := []
              load :=
                some
                  { page := page, phase := .dirLow
                    origin := origin (some { pen := p, record := record btn.state .done }) } }
        pens := s.pens.set p c }
    (btn.kind = .momentary → s.confirm p b btn frame = staged m c btn.state .done) ∧
    (btn.kind = .escape →
      s.confirm p b btn frame =
        staged m
          (if c.opts.mode = .track then
            { c with
              track :=
                { c.track with
                  fix := .noFix, sumX := 0, nX := 0, sumY := 0, nY := 0, miss := 0, lastArm := none } }
           else c)
          btn.state .done) ∧
    (btn.kind = .toggle →
      ∃ dirty, (∀ i, i ∈ dirty ↔ i ∈ m.dirty ∨ i = b) ∧
        s.confirm p b btn frame =
          staged { m with table := before ++ { btn with state := !btn.state } :: behind, dirty := dirty } c (!btn.state)
            .done) ∧
    (btn.kind = .choice →
      ∃ dirty,
        (∀ i, i ∈ dirty ↔ i ∈ m.dirty ∨ (i = b ∧ btn.state = false) ∨
          i ≠ b ∧ ∃ d, m.table[i]? = some d ∧ d.kind = .choice ∧ d.group = btn.group ∧ d.state = true) ∧
        s.confirm p b btn frame =
          staged
            { m with
              table :=
                before.map (fun d => if d.kind = .choice ∧ d.group = btn.group then { d with state := false } else d) ++
                { btn with state := true } ::
                behind.map (fun d => if d.kind = .choice ∧ d.group = btn.group then { d with state := false } else d)
              dirty := dirty }
            c true .done) ∧
    (btn.kind = .page →
      s.confirm p b btn frame =
        if m.stack.length < 4 then loads (cur.number :: m.stack) btn.target .pageButton
        else staged m c btn.state .stackFull) ∧
    (btn.kind = .back →
      (m.stack = [] → s.confirm p b btn frame = staged m c btn.state .stackEmpty) ∧
      ∀ top rest, m.stack = top :: rest → s.confirm p b btn frame = loads rest top .backButton)

/-- A hit of a CALIBRATING pen is taken against the reverse target first, then the forward one, each within its length and 255 steps more, and a
measurement already set stays (R23, R146). The judged frame is good with both measurements against equal lengths; eight good frames end the
calibration with the rounded delay or RANGE, thirty-two judged frames with TIMEOUT, and the pen returns to ARMED (R147, R148, R150). -/
def Obligations.CalibrationMeasured : Prop :=
  (∀ (p : Pen) (s : State) (k : Calibration), s.hitTaken p → (s.pen p).state = .calibrating → (s.pen p).calib = some k →
    (s.head (s.penHead p)).state = .synced → (s.head (s.penHead p)).hold = false →
    let x := s.head (s.penHead p)
    let within : Target → Prop := fun t => t.s0 ≤ x.step ∧ x.step ≤ t.s0 + t.len + 255
    let result : Calibration → Prop := fun k' =>
      exec (.penPulse p) s =
        .next (State.grant { s with pens := s.pens.set p { s.penAfterHit p with calib := some k' } })
    (x.saturated = true → result k) ∧
    (x.saturated = false →
      (∀ t, x.reverse = some t → within t →
        result { k with rev := if k.rev.isSome then k.rev else some { t := x.step - t.s0, len := t.len } }) ∧
      ((∀ t, x.reverse = some t → ¬ within t) →
        (∀ t, x.forward = some t → within t →
          result { k with fwd := if k.fwd.isSome then k.fwd else some { t := x.step - t.s0, len := t.len } }) ∧
        ((∀ t, x.forward = some t → ¬ within t) → result k)))) ∧
  (∀ (p : Pen) (s : State) (k : Calibration), (s.pen p).calib = some k →
    let good :=
      match k.fwd, k.rev with
      | some f, some r => decide (f.len = r.len)
      | _, _ => false
    let v : Int :=
      match k.fwd, k.rev with
      | some f, some r => if f.len = r.len then (f.t : Int) + r.t - f.len else 0
      | _, _ => 0
    let j : Calibration :=
      { k with
        judged := k.judged + 1, fwd := none, rev := none, sum := k.sum + v, good := if good then k.good + 1 else k.good }
    let ended : Nat → Word → Word → State := fun delay code value =>
      { s with
        pens :=
          s.pens.set p
            { s.pen p with
              state := .armed, calib := none, delay := delay
              window := { table := [], idle := 0, crowded := false, nextArrival := 1 }
              track := { (s.pen p).track with sumX := 0, nX := 0, sumY := 0, nY := 0 } }
        engine := { s.engine with results := s.engine.results ++ [{ slot := k.slot, code := code, value := value }] } }
    (j.good = 8 → j.sum < 0 ∨ 4088 ≤ j.sum → s.calibrationJudgement p = ended (s.pen p).delay 14 0) ∧
    (∀ d : Nat, j.good = 8 → 16 * (d : Int) ≤ j.sum + 8 → j.sum + 8 < 16 * (d : Int) + 16 → 0 ≤ j.sum → d ≤ 255 →
      s.calibrationJudgement p = ended d 0 (BitVec.ofNat 16 d)) ∧
    (j.good ≠ 8 → j.judged = 32 →
      s.calibrationJudgement p = ended (s.pen p).delay 13 (BitVec.ofNat 16 j.good)) ∧
    (j.good ≠ 8 → j.judged ≠ 32 →
      s.calibrationJudgement p = { s with pens := s.pens.set p { s.pen p with calib := some j } }))

/-! ## Requests -/

/-- A scan begins where a scan event waits, RUNNING reads 1 and none is in progress, and reads the slots after the last-served one in turn, modulo 8
(R171, R172); so one begins during a stop too, for an ATTENTION written while a start waits, and is abandoned as the stop ends (log entry 8). A
state word POSTED of a slot that is not outstanding is taken, any other passed over, and the slot's thirteen words, 1 and 4 to 15, are read before
TAKEN is written to its word 0; each access is at the slot's place in the request table, and word i of 4 to 15 is the one read after i - 3 others
(R170, R172). -/
def Obligations.ScanReadsSlots : Prop :=
  ∀ s : State,
    exec .scan s =
      .next (State.grant
        (if s.engine.scanPending ∧ s.engine.scan = none ∧ s.regs.running then
          { s with
            engine := { s.engine with scanPending := false, scan := some { base := s.engine.lastServed, seen := 0 } } }
         else s)) ∧
    (∀ q : ScanPos, q.seen < 8 → q.slot.val = (q.base.val + 1 + q.seen) % 8) ∧
    (∀ (ws : List Word) (i : Nat), 4 ≤ i → arg ws i = ws[i - 3]?.getD 0) ∧
    (∀ (k : SlotNo) (w : Word), s.inFlight (.slotState k) →
      exec (.stateWordRead (.word w)) s =
        .next (State.grant
          { s with
            port := none
            engine :=
              if w = 1 ∧ k ∉ s.engine.outstanding then { s.engine with work := .reading k [] }
              else s.engine.passOn }) ∧
      exec (.stateWordRead .busError) s =
        .next (State.grant
          { s with
            port := none, engine := s.engine.passOn
            regs := { s.regs with notes := { s.regs.notes with fault := true } } })) ∧
    (∀ (k : SlotNo) (ws : List Word) (w : Word), s.inFlight .slotWord → s.engine.work = .reading k ws → ws.length ≤ 12 →
      exec (.slotWordRead (.word w)) s =
        .next (State.grant
          { s with
            port := none
            engine :=
              { s.engine with
                work := if ws.length < 12 then .reading k (ws ++ [w]) else .taking k (ws ++ [w]) } }) ∧
      exec (.slotWordRead .busError) s =
        .next (State.grant
          { s with
            port := none, engine := s.engine.passOn
            regs := { s.regs with notes := { s.regs.notes with fault := true } } })) ∧
    (s.engine.results = [] →
      let at0 : SlotNo → Nat := fun k => s.regs.anchor.toNat * 256 + 16 * k.val
      (∀ q, s.engine.work = .none → s.engine.scan = some q →
        s.engineWaits = some { purpose := .slotState q.slot, addr := at0 q.slot, data := none, delivery := .live }) ∧
      (∀ k ws, s.engine.work = .reading k ws →
        s.engineWaits =
          some
            { purpose := .slotWord, addr := at0 k + (if ws.length = 0 then 1 else ws.length + 3), data := none
              delivery := .live }) ∧
      ∀ k kind rest, s.engine.work = .taking k (kind :: rest) →
        s.engineWaits = some { purpose := .taken kind, addr := at0 k, data := some 2, delivery := .live })

/-- What ends the engine's dealing with a slot: its answer joins the result list, and the scan passes on or ends after the eighth state word.
A kind that names no request is answered BAD KIND, and a bus error on a TAKEN write abandons the request, whatever its kind (R172, R173,
R174); the ten kinds are numbered 1 to 10 (R183). -/
def Obligations.RequestAnsweredOrAbandoned : Prop :=
  (∀ (s : State) (slot : SlotNo) (code value : Word),
    s.reply slot code value =
      State.passOn
        { s with
          engine :=
            { s.engine with results := s.engine.results ++ [{ slot := slot, code := code, value := value }] } }) ∧
  (∀ s : State, s.passOn = { s with engine := s.engine.passOn }) ∧
  (∀ e : Engine, e.scan = none → e.passOn = { e with work := .none }) ∧
  (∀ (e : Engine) (q : ScanPos), e.scan = some q →
    e.passOn =
      { e with work := .none, scan := if q.seen < 7 then some { base := q.base, seen := q.seen + 1 } else none }) ∧
  (∀ w : Word,
    kindOf w =
      if w.toNat = 0 then none
      else
        [Kind.loadContext, .switchContext, .armPen, .disarmPen, .moveCross, .calibratePen, .setMenuPage, .holdHead,
          .releaseHead, .readCounters][w.toNat - 1]?) ∧
  ∀ (k : Option Kind) (slot : SlotNo) (ws : List Word) (s : State), s.takenInFlight k slot ws →
    (k = none → exec (.badKind .done) s = .next ((s.taken slot).reply slot 1 0).grant) ∧
    exec (requestCommand k .busError) s =
      .next (State.grant
        { s with
          port := none, engine := s.engine.passOn
          regs := { s.regs with notes := { s.regs.notes with fault := true } } })

/-- LOAD CONTEXT (R58, R59): four checks in order, and an accepted load leaves the named slot LOADING and the engine busy. The block's words are read
in order and placed in the slot; the last makes it VALID, or INVALID at the first field out of range (R60, R61), and a bus error makes it INVALID at
the word that failed (R62). The active context is the active slot's words while it is VALID (R57), with N taken as 1 while it is not (R8). And the
places in the block of the fields that hits and judgements read, and the fields that are checked, in order, each with the offset it reports
(R56, R60, R184). -/
def Obligations.ContextLoaded : Prop :=
  (∀ (slot : SlotNo) (ws : List Word) (s : State), s.takenInFlight (some .loadContext) slot ws →
    let t := s.taken slot
    let addr := (arg ws 7).toNat * 65536 + (arg ws 6).toNat
    (1 < (arg ws 4).toNat ∨ 1 < (arg ws 5).toNat →
      exec (.loadContext .done) s = .next (t.reply slot 2 0).grant) ∧
    ∀ (h : Head) (n : SlotName), (arg ws 4).toNat = (if h = .A then 0 else 1) →
      (arg ws 5).toNat = (if n = .A then 0 else 1) →
      exec (.loadContext .done) s =
        .next (State.grant
          (if 4194303 < addr + 255 then t.reply slot 2 0
           else if n = (s.store h).active ∧ ((s.store h).slot n).state = .valid then t.reply slot 5 0
           else if (s.store h).switchPending ≠ none ∧ n ≠ (s.store h).active then t.reply slot 6 0
           else
            { t with
              ctx := s.ctx.set h ((s.store h).setSlot n { state := .loading, words := [] })
              engine := { t.engine with work := .loading slot h n addr 0 } }))) ∧
  (∀ (slot : SlotNo) (h : Head) (n : SlotName) (addr k : Nat) (s : State), s.engine.results = [] →
    s.engine.work = .loading slot h n addr k →
    s.engineWaits = some { purpose := .contextWord, addr := addr + k, data := none, delivery := .live }) ∧
  (∀ (slot : SlotNo) (h : Head) (n : SlotName) (addr k : Nat) (w : Word) (s : State), s.inFlight .contextWord →
    s.engine.work = .loading slot h n addr k →
    let t : State := { s with port := none }
    let words := ((s.store h).slot n).words ++ [w]
    let placed : State → CtxSlot → State := fun u x => { u with ctx := s.ctx.set h ((s.store h).setSlot n x) }
    (k < 255 →
      exec (.contextWordRead (.word w)) s =
        .next (State.grant
          { placed t { state := .loading, words := words } with
            engine := { s.engine with work := .loading slot h n addr (k + 1) } })) ∧
    (k = 255 → (∀ c ∈ ctxChecks words, c.2 = true) →
      exec (.contextWordRead (.word w)) s =
        .next ((placed t { state := .valid, words := words }).reply slot 0 0).grant) ∧
    (∀ before o behind, k = 255 → ctxChecks words = before ++ (o, false) :: behind → (∀ c ∈ before, c.2 = true) →
      exec (.contextWordRead (.word w)) s =
        .next ((placed t { state := .invalid, words := [] }).reply slot 9 (BitVec.ofNat 16 o)).grant) ∧
    exec (.contextWordRead .busError) s =
      .next (State.grant
        ((placed { t with regs := { s.regs with notes := { s.regs.notes with fault := true } } }
          { state := .invalid, words := [] }).reply slot 11 (BitVec.ofNat 16 k)))) ∧
  (∀ (h : Head) (s : State),
    let slot := if (s.store h).active = .A then (s.store h).slotA else (s.store h).slotB
    s.activeCtx h = (if slot.state = .valid then some slot.words else none) ∧
    s.windowLength h = if slot.state = .valid then (slot.words[133]?.getD 0).toNat % 32 else 1) ∧
  ∀ ws : List Word,
    let word : Nat → Nat := fun i => (ws[i]?.getD 0).toNat
    (∀ i, ctxWord ws i = ws[i]?.getD 0) ∧ (∀ cls ≤ 15, ctxRank ws cls = word (129 + cls / 4) / 16 ^ (cls % 4) % 8) ∧
    ctxMinHits ws = word 133 / 256 % 16 ∧ ctxIdle ws = word 134 % 16 ∧ ctxK ws = word 134 / 256 % 8 ∧
    (word 135 % 8 ≤ 4 → [1, 4, 8, 16, 32][word 135 % 8]? = some (ctxAvg ws)) ∧ ctxLoss ws = word 135 / 256 % 16 ∧
    ctxDeadBand ws = word 136 ∧
    let unsigned : Nat → Nat := fun i => word (i + 1) * 65536 + word i
    let signed : Nat → Int := fun i =>
      if unsigned i < 2147483648 then (unsigned i : Int) else (unsigned i : Int) - 4294967296
    let within : Nat → Nat → Nat → Bool := fun lo hi v => decide (lo ≤ v) && decide (v ≤ hi)
    let view : Nat → List (Nat × Bool) := fun b =>
      [(b, within 0 4095 (word b)), (b + 1, within 0 4095 (word (b + 1))), (b + 2, within 0 2 (word (b + 2) % 256)),
       (b + 12, decide (signed (b + 12) ≤ signed (b + 14))), (b + 16, decide (signed (b + 16) ≤ signed (b + 18))),
       (b + 20, within 0 2147483647 (unsigned (b + 20))), (b + 22, within 0 2147483647 (unsigned (b + 22)))]
    ctxChecks ws =
      [(133, within 1 16 (word 133 % 32)), (133, within 1 15 (word 133 / 256 % 16)), (134, within 0 15 (word 134 % 16)),
       (134, within 1 4 (word 134 / 256 % 8)), (135, within 0 4 (word 135 % 8)), (135, within 1 15 (word 135 / 256 % 16)),
       (136, within 0 255 (word 136))] ++
      view 144 ++ view 168 ++ view 192 ++ view 216

/-- SWITCH CONTEXT (R64): three checks in order, and an accepted switch records the slot. And how a boundary carries it out (R65, R66): the other slot
active, the slot answered with its name after every calibration that the switch ends (log entry 16), and each pen of the head with run, lockout and
sums dropped and a calibration FAILED DISTURBED. -/
def Obligations.SwitchContextServed : Prop :=
  (∀ (slot : SlotNo) (ws : List Word) (s : State), s.takenInFlight (some .switchContext) slot ws →
    let t := s.taken slot
    (1 < (arg ws 4).toNat → exec (.switchContext .done) s = .next (t.reply slot 2 0).grant) ∧
    ∀ h : Head, (arg ws 4).toNat = (if h = .A then 0 else 1) →
      exec (.switchContext .done) s =
        .next (State.grant
          (if (s.store h).switchPending ≠ none then t.reply slot 3 0
           else if ((s.store h).slot (s.store h).active.other).state ≠ .valid then t.reply slot 4 0
           else { t with ctx := s.ctx.set h { s.store h with switchPending := some slot } }.passOn))) ∧
  (∀ (h : Head) (s : State),
    let x := s.store h
    (x.switchPending = none → s.boundarySwitch h = s) ∧
    ∀ slot, x.switchPending = some slot →
      let now : SlotName := if x.active = .A then .B else .A
      let t := s.boundarySwitch h
      t.store h = { x with active := now, switchPending := none } ∧ (∀ k, k ≠ h → t.store k = s.store k) ∧
      t.heads = s.heads ∧ t.menus = s.menus ∧ t.reports = s.reports ∧ t.port = s.port ∧ t.regs = s.regs ∧
      t.pending = s.pending ∧
      (∀ p, t.pen p = if s.penHead p = h then (s.switchPen p).pen p else s.pen p) ∧
      t.engine =
        { s.engine with
          results :=
            s.engine.results ++
            allPens.flatMap (fun p =>
              if s.penHead p = h then
                match (s.pen p).state, (s.pen p).calib with
                | .calibrating, some k => [{ slot := k.slot, code := 12, value := BitVec.ofNat 16 k.good }]
                | _, _ => []
              else []) ++
            [{ slot := slot, code := 0, value := if now = .A then 0 else 1 }] }) ∧
  ∀ (p : Pen) (s : State),
    let c := s.pen p
    let dropped : Tracking := { c.track with sumX := 0, nX := 0, sumY := 0, nY := 0 }
    (c.state = .disarmed → s.switchPen p = s) ∧
    (c.state = .armed → c.opts.mode = .pick →
      s.switchPen p = { s with pens := s.pens.set p { c with run := none, lockout := none } }) ∧
    (c.state = .armed → c.opts.mode = .track →
      s.switchPen p = { s with pens := s.pens.set p { c with run := none, lockout := none, track := dropped } }) ∧
    ∀ k, c.state = .calibrating → c.calib = some k →
      s.switchPen p =
        { s with
          pens :=
            s.pens.set p
              { c with
                state := .armed, calib := none, run := none, lockout := none, track := dropped
                window := { table := [], idle := 0, crowded := false, nextArrival := 1 } }
          engine :=
            { s.engine with
              results := s.engine.results ++ [{ slot := k.slot, code := 12, value := BitVec.ofNat 16 k.good }] } }

/-- ARM PEN at the engine (R131, R175): a failed check answers BAD ARGUMENT or BUSY, a PICK arm is handed over and answered, and a TRACK arm has the
four words of its fence, words 2 to 5 of the tracking block, read in order, where a bad fence or a bus error answers the ARM and a good fence hands it
to the pen channel. What a TRACK arm hands over is its pen, head, mode, SINGLE, GATED, block, view, delay and pages as its words 4 to 15 give them. -/
def Obligations.ArmPenServed : Prop :=
  ∀ (slot : SlotNo) (ws : List Word) (s : State),
    let a := (arg ws 11).toNat * 65536 + (arg ws 10).toNat
    let b := (arg ws 13).toNat * 65536 + (arg ws 12).toNat
    let block := (arg ws 15).toNat * 65536 + (arg ws 14).toNat
    let mode := (arg ws 6).toNat % 256
    let view := (arg ws 6).toNat / 256
    let delay : Option Nat := if arg ws 9 = 0xFFFF then none else some (arg ws 9).toNat
    let passes :=
      (arg ws 4).toNat ≤ 3 ∧ (arg ws 5).toNat ≤ 1 ∧ mode ≤ 1 ∧ (arg ws 7).toNat ≤ 1 ∧
      ((arg ws 9).toNat ≤ 255 ∨ arg ws 9 = 0xFFFF) ∧
      a ≠ 0 ∧ b ≠ 0 ∧ a % 4 = 0 ∧ b % 4 = 0 ∧ a + 99 ≤ 4194303 ∧ b + 99 ≤ 4194303 ∧ (a + 99 < b ∨ b + 99 < a) ∧
      (mode = 1 → view ≤ 3 ∧ block + 5 ≤ 4194303)
    (s.takenInFlight (some .armPen) slot ws →
      let t := s.taken slot
      (¬ passes → exec (.armPen .done) s = .next (t.reply slot 2 0).grant) ∧
      ∀ p : Pen, passes → (arg ws 4).toNat = penNumber p →
        ((s.pen p).state = .calibrating → exec (.armPen .done) s = .next (t.reply slot 3 0).grant) ∧
        ((s.pen p).state ≠ .calibrating → mode = 1 →
          exec (.armPen .done) s =
            .next (State.grant { t with engine := { t.engine with work := .fencing slot ws [] } })) ∧
        ((s.pen p).state ≠ .calibrating → mode = 0 →
          ∃ rq : ArmRequest,
            rq.pen = p ∧ headNumber rq.opts.head = (arg ws 5).toNat ∧ rq.opts.mode = .pick ∧
            (rq.opts.single = true ↔ arg ws 7 = 1) ∧ rq.opts.gated = (arg ws 8).getLsbD 0 ∧
            rq.delay = delay ∧ rq.pages = { page0 := a, page1 := b } ∧
            exec (.armPen .done) s = .next ((t.arm rq none).reply slot 0 0).grant)) ∧
    (∀ fence : List Word, s.engine.results = [] → s.engine.work = .fencing slot ws fence →
      s.engineWaits =
        some { purpose := .fenceWord, addr := block + 2 + fence.length, data := none, delivery := .live }) ∧
    ∀ (fence : List Word) (w : Word), s.inFlight .fenceWord → s.engine.work = .fencing slot ws fence →
      let t : State := { s with port := none }
      (fence.length < 3 →
        exec (.fenceRead (.word w)) s =
          .next (State.grant { t with engine := { s.engine with work := .fencing slot ws (fence ++ [w]) } })) ∧
      (∀ (p : Pen) (h : Head) (x0 x1 y0 : Word), passes → mode = 1 → (arg ws 4).toNat = penNumber p →
        (arg ws 5).toNat = headNumber h → fence = [x0, x1, y0] →
        let rq : ArmRequest :=
          { pen := p
            opts :=
              { head := h, mode := .track, single := decide (arg ws 7 = 1), gated := (arg ws 8).getLsbD 0
                block := some block, view := Fin.ofNat 4 view }
            delay := delay
            pages := { page0 := a, page1 := b } }
        let good :=
          decide (x0.toNat ≤ x1.toNat) && decide (x1.toNat ≤ 4095) && decide (y0.toNat ≤ w.toNat) && decide (w.toNat ≤ 4095)
        exec (.fenceRead (.word w)) s =
          .next (State.grant
            (if good then
              (t.arm rq (some { xmin := x0.toNat, xmax := x1.toNat, ymin := y0.toNat, ymax := w.toNat })).reply slot 0 0
             else t.reply slot 2 0))) ∧
      exec (.fenceRead .busError) s =
        .next (State.grant
          (State.reply { t with regs := { s.regs with notes := { s.regs.notes with fault := true } } } slot 11
            (BitVec.ofNat 16 (2 + fence.length))))

/-- An ARM handed to a pen (R26, R27, R31, R130, R131, R155): what the pen becomes, from DISARMED and from ARMED, its centre-write state set at once
(log entry 23), and nothing else but the following. A DISARMED pen's path takes the new pages, or holds them while a flush is in progress. An ARMED
pen's path flushes to them, the MENU record that awaits a page load of this pen is dropped and the load otherwise kept (R124), and a centre access of
this pen already granted starts nothing more (R132). -/
def Obligations.PenArmed : Prop :=
  ∀ (rq : ArmRequest) (fence : Option Fence) (s : State), (s.pen rq.pen).state ≠ .calibrating →
    let p := rq.pen
    let t := s.arm rq fence
    let c := s.pen p
    let r := s.report p
    let armed : PenChannel :=
      { c with
        opts := rq.opts, delay := rq.delay.getD c.delay, deadMark := none, run := none, lockout := none, state := .armed
        window := { table := [], idle := 0, crowded := false, nextArrival := 1 }
        heldMark := (s.head rq.opts.head).hold
        track :=
          match fence with
          | none =>
            { c.track with
              fix := .noFix, sumX := 0, nX := 0, sumY := 0, nY := 0, fence := none
              centre := if c.state = .armed then .idle else c.track.centre
              second := if c.state = .armed then false else c.track.second }
          | some f =>
            { fix := .noFix, fence := some f, sumX := 0, nX := 0, sumY := 0, nY := 0, miss := 0, lastArm := none
              cx := (f.xmin + f.xmax) / 2, cy := (f.ymin + f.ymax) / 2
              rx := (f.xmin + f.xmax) / 2, ry := (f.ymin + f.ymax) / 2
              centre :=
                if c.state = .armed ∨ c.track.centre = .idle then .writing else .writingAgain
              second := if c.state = .armed ∨ c.track.centre = .idle then false else c.track.second } }
    let unawaited : MenuUnit → MenuUnit := fun m =>
      { m with
        load :=
          m.load.map (fun l =>
            { l with
              origin :=
                match l.origin with
                | .pageButton (some await) => .pageButton (if await.pen = p then none else some await)
                | .backButton (some await) => .backButton (if await.pen = p then none else some await)
                | origin => origin }) }
    let released : Option Access :=
      s.port.map (fun a =>
        match a.purpose with
        | .centreWord q _ => if q = p ∧ a.delivery = .live then { a with delivery := .ended } else a
        | _ => a)
    (c.state = .disarmed →
      t =
        { s with
          pens := s.pens.set p armed
          reports :=
            s.reports.set p
              (if r.flushing then { r with pendingPages := some rq.pages }
               else
                { r with
                  pages := some rq.pages, pendingPages := none, current := .p0, mark := none, out := .taking, fill := 0,
                  lostRecord := none, recordWord := 0, turnStep := 0, reread := false }) }) ∧
    (c.state = .armed →
      t =
        { s with
          pens := s.pens.set p armed, menus := { a := unawaited s.menus.a, b := unawaited s.menus.b }, port := released
          reports := (s.flush p (some rq.pages)).reports, regs := (s.flush p (some rq.pages)).regs })

/-- DISARM PEN (R29, R149): a CALIBRATING pen's slot is answered DISTURBED first and the pen, ARMED again, is disarmed; the DISARM is answered DONE; and
a DISARMED pen is not changed. And what a disarm does, a SINGLE pen's own (R30) included: options, delay, counters and dead-time mark are kept, the
centre-write state is IDLE at once and a centre access of this pen already granted starts nothing more (R132; log entry 23), the MENU record that
awaits a page load of this pen is dropped and the load otherwise kept (R124), the path flushes, and nothing else changes. -/
def Obligations.DisarmPenServed : Prop :=
  (∀ (slot : SlotNo) (ws : List Word) (s : State), s.takenInFlight (some .disarmPen) slot ws →
    let t := s.taken slot
    (3 < (arg ws 4).toNat → exec (.disarmPen .done) s = .next (t.reply slot 2 0).grant) ∧
    ∀ p : Pen, (arg ws 4).toNat = penNumber p →
      let c := s.pen p
      (c.state = .disarmed → exec (.disarmPen .done) s = .next (t.reply slot 0 0).grant) ∧
      (c.state = .armed → exec (.disarmPen .done) s = .next ((t.disarm p).reply slot 0 0).grant) ∧
      ∀ k, c.state = .calibrating → c.calib = some k →
        let disturbed : State :=
          { t with
            pens :=
              s.pens.set p
                { c with
                  state := .armed, calib := none
                  window := { table := [], idle := 0, crowded := false, nextArrival := 1 }
                  track := { c.track with sumX := 0, nX := 0, sumY := 0, nY := 0 } }
            engine :=
              { t.engine with
                results := s.engine.results ++ [{ slot := k.slot, code := 12, value := BitVec.ofNat 16 k.good }] } }
        exec (.disarmPen .done) s = .next ((disturbed.disarm p).reply slot 0 0).grant) ∧
  ∀ (p : Pen) (s : State),
    let unawaited : MenuUnit → MenuUnit := fun m =>
      { m with
        load :=
          m.load.map (fun l =>
            { l with
              origin :=
                match l.origin with
                | .pageButton (some await) => .pageButton (if await.pen = p then none else some await)
                | .backButton (some await) => .backButton (if await.pen = p then none else some await)
                | origin => origin }) }
    let released : Option Access :=
      s.port.map (fun a =>
        match a.purpose with
        | .centreWord q _ => if q = p ∧ a.delivery = .live then { a with delivery := .ended } else a
        | _ => a)
    s.disarm p =
      { s with
        pens :=
          s.pens.set p
            { s.pen p with
              state := .disarmed, run := none, lockout := none
              window := { table := [], idle := 0, crowded := false, nextArrival := 1 }
              track :=
                { (s.pen p).track with
                  fix := .noFix, sumX := 0, nX := 0, sumY := 0, nY := 0, centre := .idle, second := false } }
        menus := { a := unawaited s.menus.a, b := unawaited s.menus.b }, port := released
        reports := (s.flush p none).reports, regs := (s.flush p none).regs }

/-- A flush (R160): what the report path becomes, by its output state. A path with nothing to flush and no live state-word read of its own at the
port ends the flush at once in TURNING after READY and in STALLED (log entry 25); a LOST record formed is written first (log entry 9); a close it
begins is TURNING at once (log entry 33). A flush taken while another is in progress keeps the first flush set and takes the newest pending
addresses, or none (log entry 18). And how a flush ends: TAKING with pending addresses, the queue kept for the new pages, or else NONE, the queue
discarded and counted. -/
def Obligations.FlushTaken : Prop :=
  ∀ (p : Pen) (s : State),
    (s.pageReadInFlight p = true ↔
      ∃ a : Access, s.port = some a ∧ a.purpose = .pageState p ∧ a.delivery = .live) ∧
    let r := s.report p
    let set : ReportPath → State := fun x => { s with reports := s.reports.set p x }
    let taking : PageAddrs → ReportPath := fun pg =>
      { r with
        pages := some pg, pendingPages := none, current := .p0, mark := none, out := .taking, fill := 0,
        lostRecord := none, recordWord := 0, turnStep := 0, reread := false }
    let lostNote : State → Bool → State := fun t b =>
      { t with regs := { s.regs with notes := { s.regs.notes with lost := s.regs.notes.lost || b } } }
    (∀ next,
      let marked : ReportPath := { r with pendingPages := next, mark := some { kind := .flush, count := r.queue.length } }
      let ended : ReportPath :=
        match next with
        | some pg => taking pg
        | none =>
          { r with
            out := .none, pendingPages := none, current := .p0, mark := none, fill := 0, lostRecord := none,
            recordWord := 0, turnStep := 0, reread := false }
      (r.flushing = false →
        (r.out = .taking → s.flush p next = set marked) ∧
        (r.out = .owned → r.fill < 8 →
          (r.lostRecord ≠ none ∨ r.queue ≠ [] → s.flush p next = set marked) ∧
          (r.lostRecord = none → r.queue = [] → 0 < r.fill →
            s.flush p next = set { marked with out := .turning, turnStep := 0 }) ∧
          (r.lostRecord = none → r.queue = [] → r.fill = 0 → s.flush p next = set ended)) ∧
        (r.out = .turning → (r.turnStep ≠ 3 ∨ r.queue ≠ [] ∨ s.pageReadInFlight p = true) → s.flush p next = set marked) ∧
        (r.out = .turning → r.turnStep = 3 → r.queue = [] → s.pageReadInFlight p = false → s.flush p next = set ended) ∧
        (r.out = .stalled → s.pageReadInFlight p = true → s.flush p next = set marked) ∧
        (r.out = .stalled → s.pageReadInFlight p = false → r.queue = [] → s.flush p next = set ended) ∧
        (r.out = .fault ∨ r.out = .none → r.queue = [] → s.flush p next = set ended)) ∧
      ∀ n, r.mark = some { kind := .flush, count := n } →
        s.flush p next =
          lostNote
            (set { r with queue := r.queue.take n, pendingPages := next, lost := satAdd r.lost (r.queue.length - n) })
            (decide (n < r.queue.length))) ∧
    (∀ pg, r.pendingPages = some pg → s.endFlush p = set (taking pg)) ∧
    (r.pendingPages = none →
      s.endFlush p =
        lostNote
          (set
            { r with
              out := .none, current := .p0, mark := none, fill := 0, queue := [], lostRecord := none, recordWord := 0,
              turnStep := 0, reread := false, lost := satAdd r.lost r.queue.length })
          (decide (r.queue ≠ [])))

/-- MOVE CROSS (R139): BAD ARGUMENT, BUSY, NOT ARMED, or the centre brought within the fence, TRACKING, with a centre write raised. -/
def Obligations.MoveCrossServed : Prop :=
  ∀ (slot : SlotNo) (ws : List Word) (s : State), s.takenInFlight (some .moveCross) slot ws →
    let t := s.taken slot
    let x := (arg ws 5).toNat
    let y := (arg ws 6).toNat
    (3 < (arg ws 4).toNat ∨ 4095 < x ∨ 4095 < y → exec (.moveCross .done) s = .next (t.reply slot 2 0).grant) ∧
    ∀ p : Pen, (arg ws 4).toNat = penNumber p → x ≤ 4095 → y ≤ 4095 →
      let c := s.pen p
      (c.state = .disarmed ∨ c.state = .armed ∧ c.opts.mode = .pick →
        exec (.moveCross .done) s = .next (t.reply slot 7 0).grant) ∧
      (c.state = .calibrating → exec (.moveCross .done) s = .next (t.reply slot 3 0).grant) ∧
      ∀ f : Fence, c.state = .armed → c.opts.mode = .track → c.track.fence = some f → f.xmin ≤ f.xmax → f.ymin ≤ f.ymax →
        let cx := max f.xmin (min f.xmax x)
        let cy := max f.ymin (min f.ymax y)
        exec (.moveCross .done) s =
          .next (State.grant
            (State.reply
              { t with
                pens :=
                  s.pens.set p
                    { c with
                      track :=
                        { c.track with
                          cx := cx, cy := cy, rx := cx, ry := cy, sumX := 0, nX := 0, sumY := 0, nY := 0, miss := 0,
                          lastArm := none, fix := .tracking
                          centre := if c.track.centre = .idle then .writing else .writingAgain
                          second := if c.track.centre = .idle then false else c.track.second } } }
              slot 0 0))

/-- CALIBRATE PEN (R144, R145): five checks in order, and an accepted request opens the pen's window and makes the measurement. -/
def Obligations.CalibratePenServed : Prop :=
  ∀ (slot : SlotNo) (ws : List Word) (s : State), s.takenInFlight (some .calibratePen) slot ws →
    let t := s.taken slot
    (3 < (arg ws 4).toNat → exec (.calibratePen .done) s = .next (t.reply slot 2 0).grant) ∧
    ∀ p : Pen, (arg ws 4).toNat = penNumber p →
      let c := s.pen p
      let x := s.head (s.penHead p)
      ((∀ q, q ≠ p → s.penHead q = s.penHead p → (s.pen q).state ≠ .calibrating) →
        exec (.calibratePen .done) s =
          .next (State.grant
            (if c.state = .disarmed then t.reply slot 7 0
             else if c.state = .calibrating then t.reply slot 3 0
             else if x.state ≠ .synced ∨ x.hold = true then t.reply slot 8 0
             else
              { t with
                pens :=
                  s.pens.set p
                    { c with
                      state := .calibrating
                      window := { table := [], idle := 0, crowded := false, nextArrival := 1 }
                      calib := some { slot := slot, good := 0, judged := 0, sum := 0, fwd := none, rev := none } }
              }.passOn))) ∧
      ∀ q, q ≠ p → s.penHead q = s.penHead p → (s.pen q).state = .calibrating →
        exec (.calibratePen .done) s =
          .next (State.grant
            (if c.state = .disarmed then t.reply slot 7 0
             else if c.state = .calibrating then t.reply slot 3 0
             else if x.state ≠ .synced ∨ x.hold = true then t.reply slot 8 0
             else t.reply slot 3 0))

/-- SET MENU PAGE (R127): a bad head or action code, a page of 16 or more, a load in flight, or a load that starts. -/
def Obligations.SetMenuPageServed : Prop :=
  ∀ (slot : SlotNo) (ws : List Word) (s : State), s.takenInFlight (some .setMenuPage) slot ws →
    let t := s.taken slot
    (1 < (arg ws 4).toNat ∨ 1 < (arg ws 6).toNat → exec (.setMenuPage .done) s = .next (t.reply slot 2 0).grant) ∧
    ∀ h : Head, (arg ws 4).toNat = (if h = .A then 0 else 1) → (arg ws 6).toNat ≤ 1 →
      exec (.setMenuPage .done) s =
        .next (State.grant
          (if 16 ≤ (arg ws 5).toNat then t.reply slot 10 (arg ws 5)
           else if (s.menu h).load ≠ none then t.reply slot 3 0
           else
            { t with
              menus :=
                s.menus.set h
                  { s.menu h with
                    staging := []
                    load :=
                      some
                        { page := (arg ws 5).toNat, phase := .dirLow
                          origin := .setPage slot (decide (arg ws 6 = 1)) } } }.passOn))

/-- HOLD HEAD and RELEASE HEAD (R9, R10, R176), by the head's hold flag and hold-pending flag. -/
def Obligations.HoldAndReleaseServed : Prop :=
  ∀ (slot : SlotNo) (ws : List Word) (s : State),
    let t := s.taken slot
    (s.takenInFlight (some .holdHead) slot ws →
      (1 < (arg ws 4).toNat → exec (.holdHead .done) s = .next (t.reply slot 2 0).grant) ∧
      ∀ h : Head, (arg ws 4).toNat = (if h = .A then 0 else 1) →
        let x := s.head h
        (x.state = .off → exec (.holdHead .done) s = .next (t.reply slot 8 0).grant) ∧
        (x.state ≠ .off → x.hold = false → x.holdPending = false →
          exec (.holdHead .done) s =
            .next (State.grant
              { t with heads := s.heads.set h { x with holdPending := true, waitingSlot := some slot } }.passOn)) ∧
        (x.state ≠ .off → x.hold = false → x.holdPending = true →
          exec (.holdHead .done) s = .next (t.reply slot 3 0).grant) ∧
        (x.state ≠ .off → x.hold = true → x.holdPending = false →
          exec (.holdHead .done) s = .next (t.reply slot 0 0).grant) ∧
        ∀ w, x.state ≠ .off → x.hold = true → x.holdPending = true → x.waitingSlot = some w →
          exec (.holdHead .done) s =
            .next (State.grant
              ((State.answer
                { t with heads := s.heads.set h { x with holdPending := false, waitingSlot := none } } w 15 0).reply
                slot 0 0))) ∧
    (s.takenInFlight (some .releaseHead) slot ws →
      (1 < (arg ws 4).toNat → exec (.releaseHead .done) s = .next (t.reply slot 2 0).grant) ∧
      ∀ h : Head, (arg ws 4).toNat = (if h = .A then 0 else 1) →
        let x := s.head h
        (x.hold = true → x.holdPending = false →
          exec (.releaseHead .done) s =
            .next (State.grant
              { t with heads := s.heads.set h { x with holdPending := true, waitingSlot := some slot } }.passOn)) ∧
        (x.hold = true → x.holdPending = true → exec (.releaseHead .done) s = .next (t.reply slot 3 0).grant) ∧
        (x.hold = false → x.holdPending = false → exec (.releaseHead .done) s = .next (t.reply slot 0 0).grant) ∧
        ∀ w, x.hold = false → x.holdPending = true → x.waitingSlot = some w →
          exec (.releaseHead .done) s =
            .next (State.grant
              ((State.answer
                { t with heads := s.heads.set h { x with holdPending := false, waitingSlot := none } } w 15 0).reply
                slot 0 0)))

/-- READ COUNTERS and its snapshot (R177, R187): the address check, the 64 writes in order, the answer, and a bus error. Every word of the two heads'
eight and the four pens' twelve is at its place with the value of R187, taken at the grant; the frame number is taken whole with its low word; and
with the clear flag the grant clears the counter or the last-unmatched record that it has taken, and nothing else;
word 9 carries the record that stands at its own grant (log entry 36). -/
def Obligations.CountersRead : Prop :=
  (∀ (slot : SlotNo) (ws : List Word) (s : State), s.takenInFlight (some .readCounters) slot ws →
    let t := s.taken slot
    let addr := (arg ws 5).toNat * 65536 + (arg ws 4).toNat
    exec (.readCounters .done) s =
      .next (State.grant
        (if 4194303 < addr + 63 then t.reply slot 2 0
         else { t with engine := { t.engine with work := .snapshot slot addr ((arg ws 6).getLsbD 0) 0 0 } }))) ∧
  (∀ (slot : SlotNo) (addr k : Nat) (clear : Bool) (hi : Word) (s : State), s.inFlight .snapshotWord →
    s.engine.work = .snapshot slot addr clear k hi →
    let t : State := { s with port := none }
    exec (.snapshotWordWritten .done) s =
      .next (State.grant
        (if k < 63 then { t with engine := { s.engine with work := .snapshot slot addr clear (k + 1) hi } }
         else t.reply slot 0 0)) ∧
    exec (.snapshotWordWritten .busError) s =
      .next (State.grant
        (State.reply { t with regs := { s.regs with notes := { s.regs.notes with fault := true } } } slot 11
          (BitVec.ofNat 16 k)))) ∧
  ∀ (slot : SlotNo) (addr k : Nat) (clear : Bool) (hi : Word) (s : State),
    s.engine.work = .snapshot slot addr clear k hi →
    let word : Nat → Word := fun n => BitVec.ofNat 16 n
    let one : Bool → Nat := fun b => if b then 1 else 0
    let slotCode : CtxSlot → Nat := fun x =>
      match x.state with
      | .invalid => 0
      | .loading => 1
      | .valid => 2
    let headWord : Head → Nat → Word := fun h j =>
      match j with
      | 0 => (s.head h).linkErrors
      | 1 => (s.head h).linkLosses
      | 2 => (s.head h).overlaps
      | 3 => word ((s.head h).frame.toNat % 65536)
      | 4 => hi
      | 5 =>
        word
          (slotCode (s.store h).slotA + 4 * slotCode (s.store h).slotB + 16 * one (decide ((s.store h).active = .B)) +
            32 * one (s.store h).switchPending.isSome)
      | 6 =>
        word
          ((match (s.menu h).current with
            | some c => c.number
            | none => 31) +
            256 * (s.menu h).stack.length + 4096 * one (s.menu h).load.isSome)
      | _ => 0
    let penWord : Pen → Nat → Word := fun p j =>
      let c := s.pen p
      match j with
      | 0 =>
        word
          ((match c.state with
            | .disarmed => 0
            | .armed => 1
            | .calibrating => 2) +
            16 * one (decide (c.opts.mode = .track)) + 32 * one c.opts.single + 64 * one (decide (c.opts.head = .B)) +
            256 * (match (s.report p).out with
              | .none => 0
              | .taking => 1
              | .owned => 2
              | .turning => 3
              | .stalled => 4
              | .fault => 5) +
            4096 * (match c.lastUnmatched with
              | none => 0
              | some (.early, _) => 1
              | some (.overlong, _) => 2
              | some (.aged, _) => 3
              | some (.gap, _) => 4))
      | 1 => c.counters.hits
      | 2 => c.counters.ignored
      | 3 => c.counters.unmatched
      | 4 => c.counters.foreign
      | 5 => c.counters.filtered
      | 6 => c.counters.crowded
      | 7 => c.counters.empty
      | 8 => c.counters.menuBusy
      | 9 =>
        match c.lastUnmatched with
        | none => 0
        | some (_, frame) => word (frame.toNat % 65536)
      | 10 => (s.report p).lost
      | _ => (s.report p).seq
    let access : Word → Access := fun v =>
      { purpose := .snapshotWord, addr := addr + k, data := some v, delivery := .live }
    (∀ h j, k = 8 * headNumber h + j → j < 8 →
      (s.engine.results = [] → s.engineWaits = some (access (headWord h j))) ∧
      (s.port = none → s.firstWaiting = some (access (headWord h j)) →
        s.grant =
          { s with
            port := some (access (headWord h j))
            heads :=
              if clear then
                s.heads.set h
                  (match j with
                    | 0 => { s.head h with linkErrors := 0 }
                    | 1 => { s.head h with linkLosses := 0 }
                    | 2 => { s.head h with overlaps := 0 }
                    | _ => s.head h)
              else s.heads
            engine :=
              { s.engine with
                work := .snapshot slot addr clear k (if j = 3 then word ((s.head h).frame.toNat / 65536) else hi) } })) ∧
    ∀ p j, k = 16 + 12 * penNumber p + j → j < 12 →
      (s.engine.results = [] → s.engineWaits = some (access (penWord p j))) ∧
      (s.port = none → s.firstWaiting = some (access (penWord p j)) →
        let c := s.pen p
        let counted : PenCounters → PenChannel := fun n => { c with counters := n }
        s.grant =
          { s with
            port := some (access (penWord p j))
            pens :=
              if clear then
                s.pens.set p
                  (match j with
                    | 0 => { c with lastUnmatched := none }
                    | 1 => counted { c.counters with hits := 0 }
                    | 2 => counted { c.counters with ignored := 0 }
                    | 3 => counted { c.counters with unmatched := 0 }
                    | 4 => counted { c.counters with foreign := 0 }
                    | 5 => counted { c.counters with filtered := 0 }
                    | 6 => counted { c.counters with crowded := 0 }
                    | 7 => counted { c.counters with empty := 0 }
                    | 8 => counted { c.counters with menuBusy := 0 }
                    | _ => c)
              else s.pens })

/-- A result's three writes (R174): the code to word 2 of its slot, the value to word 3, and DONE or FAILED to word 0, upon which the entry and its
slot leave with the REQUEST note; a bus error on any of them gives up the entry with the FAULT note alone. -/
def Obligations.ResultWordTaken : Prop :=
  (∀ (r : Result) (rest : List Result) (s : State), s.engine.results = r :: rest → s.engine.resultStep ≤ 2 →
    let k := s.engine.resultStep
    s.engineWaits =
      some
        { purpose := .resultWord k, delivery := .live
          addr := s.regs.anchor.toNat * 256 + 16 * r.slot.val + (if k = 0 then 2 else if k = 1 then 3 else 0)
          data := some (if k = 0 then r.code else if k = 1 then r.value else if r.code = 0 then 3 else 4) }) ∧
  ∀ (k : Nat) (r : Result) (rest : List Result) (s : State), k ≤ 2 → s.inFlight (.resultWord k) →
    s.engine.results = r :: rest →
    let gone : Engine :=
      { s.engine with
        results := rest, resultStep := 0, outstanding := s.engine.outstanding.filter (fun x => x != r.slot) }
    (k < 2 →
      exec (.resultWordWritten .done) s =
        .next (State.grant { s with port := none, engine := { s.engine with resultStep := k + 1 } })) ∧
    (k = 2 →
      exec (.resultWordWritten .done) s =
        .next (State.grant
          { s with
            port := none, engine := gone
            regs := { s.regs with notes := { s.regs.notes with request := true } } })) ∧
    exec (.resultWordWritten .busError) s =
      .next (State.grant
        { s with
          port := none, engine := gone, regs := { s.regs with notes := { s.regs.notes with fault := true } } })

/-! ## Memory accesses -/

/-- The port grants one access at a time, cross-centre writes first, then report paths, menu units and the engine, the lower pen and head A first
within a class (R178). -/
def Obligations.GrantByClass : Prop :=
  ∀ s : State,
    (s.port ≠ none → s.grant = s) ∧
    (s.port = none → s.firstWaiting = none → s.grant = s) ∧
    (∀ (p : Pen) (a : Access), s.port = none → s.centreWaits p = some a →
      (∀ q, penNumber q < penNumber p → s.centreWaits q = none) → s.grant = { s with port := some a }) ∧
    (∀ (p : Pen) (a : Access), s.port = none → (∀ q, s.centreWaits q = none) → s.reportWaits p = some a →
      (∀ q, penNumber q < penNumber p → s.reportWaits q = none) → s.grant = { s with port := some a }) ∧
    (∀ (h : Head) (a : Access), s.port = none → (∀ q, s.centreWaits q = none) → (∀ q, s.reportWaits q = none) →
      s.menuWaits h = some a → (h = .B → s.menuWaits .A = none) → s.grant = { s with port := some a }) ∧
    ∀ a : Access, s.port = none → (∀ q, s.centreWaits q = none) → (∀ q, s.reportWaits q = none) →
      (∀ h, s.menuWaits h = none) → s.engineWaits = some a → a.purpose ≠ .snapshotWord →
      s.grant = { s with port := some a }

/-- The two writes of a cross centre (R132): word 0 then word 1 of the tracking block with the value at the grant; a completed pair ends or
starts anew, and a bus error gives the pair up with the FAULT note. An access granted before a disarm or re-arm of its pen completes and changes
nothing, but for the FAULT note on a bus error (log entry 23). -/
def Obligations.CentreWordTaken : Prop :=
  ∀ (p : Pen) (s : State),
    let t := (s.pen p).track
    let put : Tracking → PerPen PenChannel := fun x => s.pens.set p { s.pen p with track := x }
    let next : CentreWrite := if t.centre = .writingAgain then .writing else .idle
    (∀ block, (s.pen p).opts.block = some block → t.centre ≠ .idle →
      s.centreWaits p =
        some
          { purpose := .centreWord p t.second, addr := if t.second then block + 1 else block
            data := some (BitVec.ofNat 16 (if t.second then t.cy else t.cx)), delivery := .live }) ∧
    (s.inFlight (.centreWord p false) →
      exec (.centreWordWritten .done) s =
        .next (State.grant { s with port := none, pens := put { t with second := true } })) ∧
    (s.inFlight (.centreWord p true) →
      exec (.centreWordWritten .done) s =
        .next (State.grant { s with port := none, pens := put { t with centre := next, second := false } })) ∧
    (∀ second, s.inFlight (.centreWord p second) →
      exec (.centreWordWritten .busError) s =
        .next (State.grant
          { s with
            port := none, pens := put { t with centre := next, second := false }
            regs := { s.regs with notes := { s.regs.notes with fault := true } } })) ∧
    ∀ (a : Access) (second : Bool), s.port = some a → a.purpose = .centreWord p second → a.delivery = .ended →
      s.regs.stopping = false →
      exec (.centreWordWritten .done) s = .next (State.grant { s with port := none }) ∧
      exec (.centreWordWritten .busError) s =
        .next (State.grant
          { s with port := none, regs := { s.regs with notes := { s.regs.notes with fault := true } } })

/-- The write-back of a button state (R126): the lowest index of the dirty set, with the button's state, at its word of the current page, both as
they are at the grant (log entry 4). At its end the index leaves the dirty set where the button's state equals the value written, and stays where it
does not; a state changed twice meanwhile equals it again (log entry 34). With a bus error the index leaves whatever the state. -/
def Obligations.WriteBackTaken : Prop :=
  (∀ (h : Head) (i : Nat) (rest : List Nat) (c : CurrentPage) (btn : Button) (s : State), (s.menu h).dirty = i :: rest →
    (s.menu h).current = some c → (s.menu h).table[i]? = some btn →
    s.menuWaits h =
      some
        { purpose := .writeBack h i btn.state, addr := c.addr + 4 + 4 * i, data := some (if btn.state then 1 else 0)
          delivery := .live }) ∧
  ∀ (h : Head) (i : Nat) (v : Bool) (btn : Button) (s : State), s.inFlight (.writeBack h i v) →
    (s.menu h).table[i]? = some btn →
    let left : PerHead MenuUnit := s.menus.set h { s.menu h with dirty := (s.menu h).dirty.filter (fun j => j != i) }
    exec (.writeBackDone .done) s =
      .next (State.grant { s with port := none, menus := if btn.state = v then left else s.menus }) ∧
    exec (.writeBackDone .busError) s =
      .next (State.grant
        { s with
          port := none, menus := left, regs := { s.regs with notes := { s.regs.notes with fault := true } } })

/-- The reads of a page load (R110, R111), in order, each at its address once the dirty set is empty (R109): the directory's address, the page's
address, the count and four words a button; each check that fails ends the load with BAD PAGE, a bus error with BUS ERROR, and the last word completes
it. And which button words make a menu table, and which one (R111, R185). -/
def Obligations.MenuLoadWordTaken : Prop :=
  (∀ (h : Head) (l : PageLoad) (s : State), (s.menu h).dirty = [] → (s.menu h).load = some l →
    let directory := s.regs.anchor.toNat * 256 + 128 + (if h = .A then 0 else 2)
    s.menuWaits h =
      some
        { purpose := .menuLoad h, data := none, delivery := .live
          addr :=
            match l.phase with
            | .dirLow => directory
            | .dirHigh _ => directory + 1
            | .entryLow dir => dir + 2 * l.page
            | .entryHigh dir _ => dir + 2 * l.page + 1
            | .count addr => addr
            | .buttons addr _ => addr + 1 + (s.menu h).staging.length }) ∧
  (∀ (words : List Word) (table : List Button),
    let word : Nat → Nat := fun i => (words[i]?.getD 0).toNat
    buttonsOf [] words = some table ↔
      words.length = 4 * table.length ∧
      ∀ (i : Nat) (b : Button), table[i]? = some b →
        b.tag = word (4 * i) ∧
        (match b.kind with
          | .momentary => 0
          | .toggle => 1
          | .choice => 2
          | .page => 3
          | .back => 4
          | .escape => 5) = word (4 * i + 1) % 16 ∧
        b.group = word (4 * i + 1) / 16 % 8 ∧ b.target = word (4 * i + 1) / 256 % 32 ∧
        b.action = words[4 * i + 2]?.getD 0 ∧ b.state = decide (word (4 * i + 3) ≠ 0) ∧
        b.tag ≤ 1983 ∧ (∀ j c, j < i → table[j]? = some c → c.tag ≠ b.tag) ∧ (b.kind = .page → b.target < 16)) ∧
  ∀ (h : Head) (l : PageLoad) (w : Word) (s : State), s.inFlight (.menuLoad h) → (s.menu h).load = some l →
    let m := s.menu h
    let t : State := { s with port := none }
    let goesOn : LoadPhase → Prop := fun ph =>
      exec (.menuLoadRead (.word w)) s =
        .next (State.grant { t with menus := s.menus.set h { m with load := some { l with phase := ph } } })
    let bad : Prop := exec (.menuLoadRead (.word w)) s = .next (t.loadFailed h l 10 .badPage).grant
    (l.phase = .dirLow → goesOn (.dirHigh w)) ∧
    (∀ lo, l.phase = .dirHigh lo →
      let dir := w.toNat * 65536 + lo.toNat
      (dir + 31 ≤ 4194303 → goesOn (.entryLow dir)) ∧ (4194303 < dir + 31 → bad)) ∧
    (∀ dir, l.phase = .entryLow dir → goesOn (.entryHigh dir w)) ∧
    (∀ dir lo, l.phase = .entryHigh dir lo →
      let addr := w.toNat * 65536 + lo.toNat
      (addr ≠ 0 ∧ addr + 96 ≤ 4194303 → goesOn (.count addr)) ∧ (addr = 0 ∨ 4194303 < addr + 96 → bad)) ∧
    (∀ addr, l.phase = .count addr →
      (24 < w.toNat → bad) ∧
      (1 ≤ w.toNat ∧ w.toNat ≤ 24 → goesOn (.buttons addr w.toNat)) ∧
      (w = 0 → exec (.menuLoadRead (.word w)) s = .next (t.loadDone h l addr []).grant)) ∧
    (∀ addr n, l.phase = .buttons addr n →
      let words := m.staging ++ [w]
      (words.length < 4 * n →
        exec (.menuLoadRead (.word w)) s =
          .next (State.grant { t with menus := s.menus.set h { m with staging := words } })) ∧
      (4 * n ≤ words.length →
        (buttonsOf [] words = none → bad) ∧
        ∀ table, buttonsOf [] words = some table →
          exec (.menuLoadRead (.word w)) s = .next (t.loadDone h l addr table).grant)) ∧
    exec (.menuLoadRead .busError) s =
      .next (State.grant
        (State.loadFailed { t with regs := { s.regs with notes := { s.regs.notes with fault := true } } } h l 11 .busError))

/-- How a page load ends (R112, R113, R124, R127): completed, it replaces the table and the current page, makes the stack change final and clears the
runs and lockouts of the head's pens; failed, it undoes the stack change; and it answers its slot or stages its awaiting record, where none has been
dropped. -/
def Obligations.MenuLoadEnds : Prop :=
  ∀ (h : Head) (l : PageLoad) (s : State),
    let m := s.menu h
    (∀ (addr : Nat) (table : List Button),
      let t := s.loadDone h l addr table
      t.menu h =
        { table := table, current := some { number := l.page, addr := addr }, load := none, staging := [],
          dirty := m.dirty
          stack :=
            match l.origin with
            | .setPage _ clear => if clear then [] else m.stack
            | .pageButton _ | .backButton _ => m.stack } ∧
      (∀ k, k ≠ h → t.menu k = s.menu k) ∧
      (∀ p, t.pen p =
        if s.penHead p = h ∧ (s.pen p).state ≠ .disarmed then { s.pen p with run := none, lockout := none }
        else s.pen p) ∧
      (∀ slot clear, l.origin = .setPage slot clear →
        t.engine =
          { s.engine with
            results := s.engine.results ++ [{ slot := slot, code := 0, value := BitVec.ofNat 16 l.page }] } ∧
        t.reports = s.reports ∧ t.regs = s.regs) ∧
      (∀ a, l.origin = .pageButton (some a) ∨ l.origin = .backButton (some a) →
        t.engine = s.engine ∧
        t.reports = (s.stage a.pen (.menu { a.record with page := l.page, status := .done })).reports ∧
        t.regs = (s.stage a.pen (.menu { a.record with page := l.page, status := .done })).regs) ∧
      (l.origin = .pageButton none ∨ l.origin = .backButton none →
        t.engine = s.engine ∧ t.reports = s.reports ∧ t.regs = s.regs) ∧
      t.heads = s.heads ∧ t.ctx = s.ctx ∧ t.port = s.port ∧ t.pending = s.pending) ∧
    ∀ (code : Word) (status : MenuStatus),
      let t := s.loadFailed h l code status
      t.menu h =
        { m with
          load := none, staging := []
          stack :=
            match l.origin with
            | .setPage _ _ => m.stack
            | .pageButton _ => m.stack.drop 1
            | .backButton _ => l.page :: m.stack } ∧
      (∀ k, k ≠ h → t.menu k = s.menu k) ∧ t.pens = s.pens ∧
      (∀ slot clear, l.origin = .setPage slot clear →
        t.engine =
          { s.engine with
            results := s.engine.results ++ [{ slot := slot, code := code, value := BitVec.ofNat 16 l.page }] } ∧
        t.reports = s.reports ∧ t.regs = s.regs) ∧
      (∀ a cur, l.origin = .pageButton (some a) ∨ l.origin = .backButton (some a) → m.current = some cur →
        t.engine = s.engine ∧
        t.reports = (s.stage a.pen (.menu { a.record with page := cur.number, status := status })).reports ∧
        t.regs = (s.stage a.pen (.menu { a.record with page := cur.number, status := status })).regs) ∧
      (l.origin = .pageButton none ∨ l.origin = .backButton none →
        t.engine = s.engine ∧ t.reports = s.reports ∧ t.regs = s.regs) ∧
      t.heads = s.heads ∧ t.ctx = s.ctx ∧ t.port = s.port ∧ t.pending = s.pending

/-- A record handed to a report path (R154): queued while fewer than 4 wait in TAKING, OWNED and TURNING, else discarded with the lost count raised,
saturating, and the LOST note. And a window boundary that reaches the path (R157, R159): a BOUNDARY mark on an OWNED page that holds or awaits
records, which closes the page where none is queued (TURNING at once, log entry 33), a re-read in STALLED, and nothing elsewhere or during a flush. -/
def Obligations.RecordStaged : Prop :=
  (∀ (p : Pen) (record : Record) (s : State),
    let r := s.report p
    ((r.out = .taking ∨ r.out = .owned ∨ r.out = .turning) → r.queue.length < 4 →
      s.stage p record = { s with reports := s.reports.set p { r with queue := r.queue ++ [record] } }) ∧
    (((r.out = .stalled ∨ r.out = .fault ∨ r.out = .none) ∨ 4 ≤ r.queue.length) →
      s.stage p record =
        { s with
          reports :=
            s.reports.set p { r with lost := if r.lost = 65535 then 65535 else r.lost + 1 }
          regs := { s.regs with notes := { s.regs.notes with lost := true } } })) ∧
  ∀ (p : Pen) (s : State),
    let r := s.report p
    let set : ReportPath → State := fun x => { s with reports := s.reports.set p x }
    let marked : ReportPath := { r with mark := some { kind := .boundary, count := r.queue.length } }
    (r.flushing = true ∨ r.out = .taking ∨ r.out = .turning ∨ r.out = .none ∨ r.out = .fault ∨
      r.out = .owned ∧ r.fill = 0 ∧ r.queue = [] → s.reportBoundary p = s) ∧
    (r.flushing = false → r.out = .owned → r.fill < 8 →
      (r.queue ≠ [] → s.reportBoundary p = set marked) ∧
      (r.queue = [] → 0 < r.fill → r.lostRecord ≠ none → s.reportBoundary p = set marked) ∧
      (r.queue = [] → 0 < r.fill → r.lostRecord = none →
        s.reportBoundary p = set { marked with out := .turning, turnStep := 0 })) ∧
    (r.flushing = false → r.out = .stalled → s.reportBoundary p = set { r with reread := true })

/-- The reads of a page's state word (R153, R155, R158, R159): of the current page in TAKING and, where a re-read is raised, in STALLED, of the other
page in TURNING after READY, and none in STALLED without a re-read, in FAULT and in NONE. And a page's state word read: EMPTY owns the page with a fill
count of 0, and forms a LOST record where the lost count is above 0; anything else stalls the path with its queue discarded and counted, or leaves it
stalled. While a FLUSH mark stands (R160), EMPTY owns the page where the flush set is not empty; otherwise the flush set is discarded and counted and
the flush ends, as it does after a read in STALLED whatever the word. -/
def Obligations.PageStateTaken : Prop :=
  (∀ pg : PageAddrs, pg.addr .p0 = pg.page0 ∧ pg.addr .p1 = pg.page1) ∧ PageSel.p0.other = .p1 ∧ PageSel.p1.other = .p0 ∧
  (∀ (p : Pen) (s : State),
    let r := s.report p
    (r.pages = none → s.reportWaits p = none) ∧
    ∀ pg, r.pages = some pg →
      let read : PageSel → Option Access := fun page =>
        some
          { purpose := .pageState p, data := none, delivery := .live
            addr :=
              match page with
              | .p0 => pg.page0
              | .p1 => pg.page1 }
      let away : PageSel :=
        match r.current with
        | .p0 => .p1
        | .p1 => .p0
      (r.out = .taking → s.reportWaits p = read r.current) ∧
      (r.out = .turning → r.turnStep = 3 → s.reportWaits p = read away) ∧
      (r.out = .stalled → s.reportWaits p = if r.reread then read r.current else none) ∧
      (r.out = .fault ∨ r.out = .none → s.reportWaits p = none)) ∧
  ∀ (p : Pen) (w : Word) (s : State), s.inFlight (.pageState p) →
    let r := s.report p
    let page := if r.out = .turning then r.current.other else r.current
    let put : ReportPath → State := fun x => { s with port := none, reports := s.reports.set p x }
    let owned : Prop :=
      exec (.reportStateRead (.word w)) s =
        .next (State.grant
          (put
            { r with
              out := .owned, current := page, fill := 0, recordWord := 0, turnStep := 0, reread := false, lost := 0
              lostRecord := if r.lost = 0 then none else some r.lost }))
    (r.mark = none → r.out = .taking ∨ r.out = .turning ∨ r.out = .stalled → w = 0 → owned) ∧
    (∀ n, r.mark = some { kind := .flush, count := n } →
      (r.out = .taking ∨ r.out = .turning → w = 0 → 0 < n → owned) ∧
      (r.out = .taking ∨ r.out = .turning → w ≠ 0 ∨ n = 0 →
        exec (.reportStateRead (.word w)) s =
          .next (State.grant
            (State.endFlush
              { put { r with current := page, queue := r.queue.drop n, lost := satAdd r.lost (min n r.queue.length) } with
                regs :=
                  { s.regs with
                    notes := { s.regs.notes with lost := s.regs.notes.lost || decide (0 < min n r.queue.length) } } } p))) ∧
      (r.out = .stalled →
        exec (.reportStateRead (.word w)) s = .next (State.grant (State.endFlush { s with port := none } p)))) ∧
    (r.mark = none → r.out = .taking ∨ r.out = .turning → w ≠ 0 →
      exec (.reportStateRead (.word w)) s =
        .next (State.grant
          { put
              { r with
                out := .stalled, current := page, fill := 0, turnStep := 0, reread := false, queue := []
                lost := satAdd r.lost r.queue.length } with
            regs :=
              { s.regs with notes := { s.regs.notes with lost := s.regs.notes.lost || decide (r.queue ≠ []) } } })) ∧
    (r.mark = none → r.out = .stalled → w ≠ 0 →
      exec (.reportStateRead (.word w)) s = .next (State.grant (put { r with reread := false })))

/-- The words of a record (R153, R156, R157, R160, R186): each is written at its place in the record slot that the fill count names, a LOST record
formed before the front of the queue, with the contents of R186. At its end the word counter rises, and the twelfth word takes the record from the
queue, raises the fill count and counts the mark down; the page is then closed, TURNING at once (log entry 33), when it is full or its mark has
reached 0, and a page that fills during a flush discards the rest of the flush set. A LOST record leaves the queue as it is, and closes the page
where its mark counts nothing. -/
def Obligations.RecordWordTaken : Prop :=
  (∀ (p : Pen) (pg : PageAddrs) (record : Record) (s : State), (s.report p).pages = some pg → (s.report p).out = .owned →
    ((∃ c, (s.report p).lostRecord = some c ∧ record = .lost c) ∨
      (s.report p).lostRecord = none ∧ (s.report p).queue.head? = some record) →
    let k := (s.report p).recordWord
    let word : Nat → Word := fun n => BitVec.ofNat 16 n
    let lo : Long → Word := fun v => word (v.toNat % 65536)
    let hi : Long → Word := fun v => word (v.toNat / 65536)
    let one : Bool → Nat := fun b => if b then 1 else 0
    let pair : AxisPair → Nat := fun a =>
      match a with
      | .xy => 0
      | .xz => 1
      | .yz => 2
      | .none => 3
    let cause : LossCause → Nat := fun c =>
      match c with
      | .misses => 0
      | .linkLoss => 1
      | .disable => 2
    let flags : Converted → Nat := fun c => one c.clamp1 + 2 * one c.clamp2 + 4 * one c.grid1 + 8 * one c.grid2
    let loft : Converted → List Word := fun c =>
      [lo (BitVec.ofInt 32 c.first), hi (BitVec.ofInt 32 c.first), lo (BitVec.ofInt 32 c.second),
       hi (BitVec.ofInt 32 c.second)]
    let words : List Word :=
      match record with
      | .pick r =>
        [word (1 + 16 * pair r.loft.axes +
            256 * (match r.reason with
              | .boundary => 0
              | .release => 1
              | .idle => 2)),
          lo r.frame, hi r.frame, word (flags r.loft + 16 * one r.tie + 32 * one r.crowded), word (r.tag + 4096 * r.cls),
          word (r.view.val + 16 * r.eligible + 256 * r.hits), word r.x, word r.y] ++ loft r.loft
      | .menu r =>
        [word (2 + 256 * (match r.status with
            | .done => 0
            | .stackFull => 1
            | .stackEmpty => 2
            | .badPage => 3
            | .busError => 4)),
          lo r.frame, hi r.frame, 0,
          word (r.index + 256 * (match r.kind with
            | .momentary => 0
            | .toggle => 1
            | .choice => 2
            | .page => 3
            | .back => 4
            | .escape => 5)),
          word (one r.state), word r.page, r.action, 0, 0, 0, 0]
      | .track r =>
        [word (3 + 16 * pair r.loft.axes), lo r.frame, hi r.frame, word (flags r.loft + 64 * one r.final), 0, 0, word r.x,
          word r.y] ++ loft r.loft
      | .trackLost x y c frame => [word (4 + 256 * cause c), lo frame, hi frame, 0, 0, 0, word x, word y, 0, 0, 0, 0]
      | .abort c entries frame => [word (5 + 256 * cause c), lo frame, hi frame, 0, word entries, 0, 0, 0, 0, 0, 0, 0]
      | .lost count => [6, 0, 0, 0, count, 0, 0, 0, 0, 0, 0, 0]
    s.reportWaits p =
      some
        { purpose := .recordWord p k, addr := pg.addr (s.report p).current + 4 + 12 * (s.report p).fill + k
          data := some (words[k]?.getD 0), delivery := .live }) ∧
  ∀ (p : Pen) (k : Nat) (s : State), s.inFlight (.recordWord p k) → k ≤ 11 →
    let r := s.report p
    let put : ReportPath → State := fun x => { s with port := none, reports := s.reports.set p x }
    (k < 11 → exec (.recordWordWritten .done) s = .next (State.grant (put { r with recordWord := k + 1 }))) ∧
    (∀ first rest, k = 11 → r.out = .owned → r.lostRecord = none → r.queue = first :: rest → r.fill ≤ 7 →
      let written : ReportPath :=
        { r with
          recordWord := 0, fill := r.fill + 1, queue := rest
          mark := r.mark.map (fun m => { m with count := m.count - 1 }) }
      (r.fill < 7 → (∀ m, r.mark = some m → 2 ≤ m.count) →
        exec (.recordWordWritten .done) s = .next (State.grant (put written))) ∧
      ((∃ m, r.mark = some m ∧ m.count ≤ 1) ∨ r.fill = 7 ∧ (∀ m, r.mark = some m → m.kind = .boundary) →
        exec (.recordWordWritten .done) s =
          .next (State.grant (put { written with out := .turning, turnStep := 0 }))) ∧
      ∀ n, r.fill = 7 → r.mark = some { kind := .flush, count := n + 2 } → n + 1 ≤ rest.length →
        exec (.recordWordWritten .done) s =
          .next (State.grant
            { put
                { written with
                  out := .turning, turnStep := 0, queue := rest.drop (n + 1), lost := satAdd r.lost (n + 1)
                  mark := some { kind := .flush, count := 0 } } with
              regs := { s.regs with notes := { s.regs.notes with lost := true } } })) ∧
    (∀ count, k = 11 → r.out = .owned → r.lostRecord = some count → r.fill = 0 →
      let written : ReportPath := { r with recordWord := 0, fill := 1, lostRecord := none }
      ((∀ m, r.mark = some m → 0 < m.count) →
        exec (.recordWordWritten .done) s = .next (State.grant (put written))) ∧
      (∀ m, r.mark = some m → m.count = 0 →
        exec (.recordWordWritten .done) s =
          .next (State.grant (put { written with out := .turning, turnStep := 0 }))))

/-- A bus error on any access of a report path (R161): FAULT, with the queue and a LOST record not fully written counted, and the FAULT note; during a
flush it ends the flush (R160). The current page stays the page closed where TURNING's read of the other page failed (log entry 35). -/
def Obligations.PageFaultTaken : Prop :=
  ∀ (p : Pen) (s : State),
    let r := s.report p
    let faulted : State :=
      { s with
        port := none
        reports :=
          s.reports.set p
            { r with
              out := .fault, mark := none, fill := 0, recordWord := 0, turnStep := 0, reread := false,
              lostRecord := none, queue := []
              lost := satAdd (satAdd r.lost r.queue.length) (r.lostRecord.getD 0).toNat }
        regs :=
          { s.regs with
            notes :=
              { s.regs.notes with fault := true, lost := s.regs.notes.lost || decide (r.queue ≠ []) } } }
    let left := if r.flushing then faulted.endFlush p else faulted
    (s.inFlight (.pageState p) → exec (.reportStateRead .busError) s = .next left.grant) ∧
    (∀ k, s.inFlight (.recordWord p k) → exec (.recordWordWritten .busError) s = .next left.grant) ∧
    ∀ k, s.inFlight (.headerWord p k) → exec (.headerWordWritten .busError) s = .next left.grant

/-- A close (R153, R158): the header's three writes in order, and the write of READY raises the page sequence, wrapping, sets the PAGE note and,
outside a flush, ends the mark and goes on to read the other page. At the close of a flush (R160) it ends the flush where nothing is left of the flush
set, and else goes on to the other page with the mark. -/
def Obligations.HeaderWordTaken : Prop :=
  ∀ (p : Pen) (k : Nat) (s : State), k ≤ 2 →
    let r := s.report p
    let put : ReportPath → State := fun x => { s with port := none, reports := s.reports.set p x }
    (∀ pg, r.pages = some pg → r.out = .turning → r.turnStep = k →
      let page := pg.addr r.current
      s.reportWaits p =
        some
          { purpose := .headerWord p k, delivery := .live
            addr := if k = 0 then page + 1 else if k = 1 then page + 2 else page
            data := some (if k = 0 then BitVec.ofNat 16 r.fill else if k = 1 then r.seq else 1) }) ∧
    (s.inFlight (.headerWord p k) → k < 2 →
      exec (.headerWordWritten .done) s = .next (State.grant (put { r with turnStep := k + 1 }))) ∧
    (s.inFlight (.headerWord p k) → k = 2 → r.flushing = false →
      exec (.headerWordWritten .done) s =
        .next (State.grant
          { put { r with turnStep := 3, seq := r.seq + 1, mark := none } with
            regs := { s.regs with notes := { s.regs.notes with page := true } } })) ∧
    ∀ n, s.inFlight (.headerWord p k) → k = 2 → r.mark = some { kind := .flush, count := n } →
      let closed : State :=
        { put { r with turnStep := 3, seq := r.seq + 1 } with
          regs := { s.regs with notes := { s.regs.notes with page := true } } }
      exec (.headerWordWritten .done) s = .next (State.grant (if n = 0 then closed.endFlush p else closed))

/-! ## What every step keeps -/

/-- Every one of the seven promises below holds right after reset. -/
def Obligations.PromisesHoldAtReset : Prop :=
  State.reset.historiesOk ∧ State.reset.windowsOk ∧ State.reset.pensOk ∧ State.reset.menusOk ∧
  State.reset.reportsOk ∧ State.reset.slotsOk ∧ State.reset.portOk

/-- Every step keeps the step counters within their range and the stroke histories in order, without overlap, and at most 32 long (R4, R15). -/
def Obligations.HistoriesKept : Prop :=
  ∀ s t : State, s.historiesOk → step s = .next t → t.historiesOk

/-- Every step keeps each VALID context slot complete and in range, each load in step with its slot, and each frame-in-window count below the
window length of the active context (R8, R55, R60). -/
def Obligations.WindowsKept : Prop :=
  ∀ s t : State, s.windowsOk → step s = .next t → t.windowsOk

/-- Every step keeps the candidate tables in order, each cross centre within its fence, the calibration with its pen and its counts, and every delay
in 0–255 (R31, R72, R73, R130, R144). -/
def Obligations.PensKept : Prop :=
  ∀ s t : State, s.pensOk → step s = .next t → t.pensOk

/-- Every step keeps the menu tables within 24 buttons of distinct tags, the page stacks within four pages, the dirty sets in order, and the staging
tables within what the load in flight has read (R107, R110). -/
def Obligations.MenusKept : Prop :=
  ∀ s t : State, s.menusOk → step s = .next t → t.menusOk

/-- Every step keeps at most four records in a staging queue, and none where the path keeps none, with the marks and fill counts in range, and no page
held for a flush with nothing left to write (R152, R154, R156, R160). -/
def Obligations.ReportsKept : Prop :=
  ∀ s t : State, s.reportsOk → step s = .next t → t.reportsOk

/-- Every step keeps at most one answer due for an outstanding slot and none for any other, so that the result list holds at most one entry for each
outstanding slot (R174). -/
def Obligations.SlotsKept : Prop :=
  ∀ s t : State, s.slotsOk → step s = .next t → t.slotsOk

/-- Every step leaves the port with an access in flight or with no requester waiting (R178), and the blocks at rest while RESETTING reads 1 (R169) and
from a RUN stop or a reset to the next start (R167, R168). -/
def Obligations.PortKept : Prop :=
  ∀ s t : State, s.portOk → step s = .next t → t.portOk
end

