-- ==== Sys2Proof/Laws/State.lean ====
section
/-! SUPPORT. What each update of State leaves in each field, and reading after writing a head's or a pen's own. -/

namespace Sys2Proof.Machine

open Sys2Proof

/-! ## Reading after writing -/

@[simp] theorem PerHead.get_set_self {α : Type} (x : PerHead α) (h : Head) (v : α) : (x.set h v).get h = v := by
  cases h <;> rfl

theorem PerHead.get_set_of_ne {α : Type} (x : PerHead α) {h k : Head} (hk : k ≠ h) (v : α) :
    (x.set h v).get k = x.get k := by
  cases h <;> cases k <;> first | rfl | exact absurd rfl hk

theorem PerHead.get_set {α : Type} (x : PerHead α) (h k : Head) (v : α) :
    (x.set h v).get k = if k = h then v else x.get k := by
  cases h <;> cases k <;> rfl

@[simp] theorem PerHead.set_set {α : Type} (x : PerHead α) (h : Head) (v w : α) : (x.set h v).set h w = x.set h w := by
  cases h <;> rfl

@[simp] theorem PerHead.set_get {α : Type} (x : PerHead α) (h : Head) : x.set h (x.get h) = x := by
  cases h <;> rfl

@[simp] theorem PerPen.get_set_self {α : Type} (x : PerPen α) (p : Pen) (v : α) : (x.set p v).get p = v := by
  cases p <;> rfl

theorem PerPen.get_set_of_ne {α : Type} (x : PerPen α) {p q : Pen} (hq : q ≠ p) (v : α) :
    (x.set p v).get q = x.get q := by
  cases p <;> cases q <;> first | rfl | exact absurd rfl hq

theorem PerPen.get_set {α : Type} (x : PerPen α) (p q : Pen) (v : α) :
    (x.set p v).get q = if q = p then v else x.get q := by
  cases p <;> cases q <;> rfl

@[simp] theorem PerPen.set_set {α : Type} (x : PerPen α) (p : Pen) (v w : α) : (x.set p v).set p w = x.set p w := by
  cases p <;> rfl

@[simp] theorem PerPen.set_get {α : Type} (x : PerPen α) (p : Pen) : x.set p (x.get p) = x := by
  cases p <;> rfl

/-- Two values for each pen are equal when they are equal at each pen. -/
theorem PerPen.ext_get {α : Type} {x y : PerPen α} (e : ∀ p, x.get p = y.get p) : x = y := by
  obtain ⟨a, b, c, d⟩ := x
  obtain ⟨a', b', c', d'⟩ := y
  have h0 := e .p0
  have h1 := e .p1
  have h2 := e .p2
  have h3 := e .p3
  simp only [PerPen.get] at h0 h1 h2 h3
  subst h0 h1 h2 h3
  rfl

/-- Two values for each head are equal when they are equal at each head. -/
theorem PerHead.ext_get {α : Type} {x y : PerHead α} (e : ∀ h, x.get h = y.get h) : x = y := by
  obtain ⟨a, b⟩ := x
  obtain ⟨a', b'⟩ := y
  have h0 := e .A
  have h1 := e .B
  simp only [PerHead.get] at h0 h1
  subst h0 h1
  rfl

/-! ## One lemma for each update and field -/

@[simp] theorem State.setHead_heads (s : State) (h : Head) (x : HeadRx) : (s.setHead h x).heads = s.heads.set h x := rfl
@[simp] theorem State.setHead_ctx (s : State) (h : Head) (x : HeadRx) : (s.setHead h x).ctx = s.ctx := rfl
@[simp] theorem State.setHead_menus (s : State) (h : Head) (x : HeadRx) : (s.setHead h x).menus = s.menus := rfl
@[simp] theorem State.setHead_pens (s : State) (h : Head) (x : HeadRx) : (s.setHead h x).pens = s.pens := rfl
@[simp] theorem State.setHead_reports (s : State) (h : Head) (x : HeadRx) : (s.setHead h x).reports = s.reports := rfl
@[simp] theorem State.setHead_engine (s : State) (h : Head) (x : HeadRx) : (s.setHead h x).engine = s.engine := rfl
@[simp] theorem State.setHead_port (s : State) (h : Head) (x : HeadRx) : (s.setHead h x).port = s.port := rfl
@[simp] theorem State.setHead_regs (s : State) (h : Head) (x : HeadRx) : (s.setHead h x).regs = s.regs := rfl
@[simp] theorem State.setHead_pending (s : State) (h : Head) (x : HeadRx) : (s.setHead h x).pending = s.pending := rfl

@[simp] theorem State.setStore_heads (s : State) (h : Head) (x : CtxStore) : (s.setStore h x).heads = s.heads := rfl
@[simp] theorem State.setStore_ctx (s : State) (h : Head) (x : CtxStore) : (s.setStore h x).ctx = s.ctx.set h x := rfl
@[simp] theorem State.setStore_menus (s : State) (h : Head) (x : CtxStore) : (s.setStore h x).menus = s.menus := rfl
@[simp] theorem State.setStore_pens (s : State) (h : Head) (x : CtxStore) : (s.setStore h x).pens = s.pens := rfl
@[simp] theorem State.setStore_reports (s : State) (h : Head) (x : CtxStore) : (s.setStore h x).reports = s.reports := rfl
@[simp] theorem State.setStore_engine (s : State) (h : Head) (x : CtxStore) : (s.setStore h x).engine = s.engine := rfl
@[simp] theorem State.setStore_port (s : State) (h : Head) (x : CtxStore) : (s.setStore h x).port = s.port := rfl
@[simp] theorem State.setStore_regs (s : State) (h : Head) (x : CtxStore) : (s.setStore h x).regs = s.regs := rfl
@[simp] theorem State.setStore_pending (s : State) (h : Head) (x : CtxStore) : (s.setStore h x).pending = s.pending := rfl

@[simp] theorem State.setMenu_heads (s : State) (h : Head) (x : MenuUnit) : (s.setMenu h x).heads = s.heads := rfl
@[simp] theorem State.setMenu_ctx (s : State) (h : Head) (x : MenuUnit) : (s.setMenu h x).ctx = s.ctx := rfl
@[simp] theorem State.setMenu_menus (s : State) (h : Head) (x : MenuUnit) : (s.setMenu h x).menus = s.menus.set h x := rfl
@[simp] theorem State.setMenu_pens (s : State) (h : Head) (x : MenuUnit) : (s.setMenu h x).pens = s.pens := rfl
@[simp] theorem State.setMenu_reports (s : State) (h : Head) (x : MenuUnit) : (s.setMenu h x).reports = s.reports := rfl
@[simp] theorem State.setMenu_engine (s : State) (h : Head) (x : MenuUnit) : (s.setMenu h x).engine = s.engine := rfl
@[simp] theorem State.setMenu_port (s : State) (h : Head) (x : MenuUnit) : (s.setMenu h x).port = s.port := rfl
@[simp] theorem State.setMenu_regs (s : State) (h : Head) (x : MenuUnit) : (s.setMenu h x).regs = s.regs := rfl
@[simp] theorem State.setMenu_pending (s : State) (h : Head) (x : MenuUnit) : (s.setMenu h x).pending = s.pending := rfl

@[simp] theorem State.setPen_heads (s : State) (p : Pen) (x : PenChannel) : (s.setPen p x).heads = s.heads := rfl
@[simp] theorem State.setPen_ctx (s : State) (p : Pen) (x : PenChannel) : (s.setPen p x).ctx = s.ctx := rfl
@[simp] theorem State.setPen_menus (s : State) (p : Pen) (x : PenChannel) : (s.setPen p x).menus = s.menus := rfl
@[simp] theorem State.setPen_pens (s : State) (p : Pen) (x : PenChannel) : (s.setPen p x).pens = s.pens.set p x := rfl
@[simp] theorem State.setPen_reports (s : State) (p : Pen) (x : PenChannel) : (s.setPen p x).reports = s.reports := rfl
@[simp] theorem State.setPen_engine (s : State) (p : Pen) (x : PenChannel) : (s.setPen p x).engine = s.engine := rfl
@[simp] theorem State.setPen_port (s : State) (p : Pen) (x : PenChannel) : (s.setPen p x).port = s.port := rfl
@[simp] theorem State.setPen_regs (s : State) (p : Pen) (x : PenChannel) : (s.setPen p x).regs = s.regs := rfl
@[simp] theorem State.setPen_pending (s : State) (p : Pen) (x : PenChannel) : (s.setPen p x).pending = s.pending := rfl

@[simp] theorem State.setReport_heads (s : State) (p : Pen) (x : ReportPath) : (s.setReport p x).heads = s.heads := rfl
@[simp] theorem State.setReport_ctx (s : State) (p : Pen) (x : ReportPath) : (s.setReport p x).ctx = s.ctx := rfl
@[simp] theorem State.setReport_menus (s : State) (p : Pen) (x : ReportPath) : (s.setReport p x).menus = s.menus := rfl
@[simp] theorem State.setReport_pens (s : State) (p : Pen) (x : ReportPath) : (s.setReport p x).pens = s.pens := rfl
@[simp] theorem State.setReport_reports (s : State) (p : Pen) (x : ReportPath) : (s.setReport p x).reports = s.reports.set p x := rfl
@[simp] theorem State.setReport_engine (s : State) (p : Pen) (x : ReportPath) : (s.setReport p x).engine = s.engine := rfl
@[simp] theorem State.setReport_port (s : State) (p : Pen) (x : ReportPath) : (s.setReport p x).port = s.port := rfl
@[simp] theorem State.setReport_regs (s : State) (p : Pen) (x : ReportPath) : (s.setReport p x).regs = s.regs := rfl
@[simp] theorem State.setReport_pending (s : State) (p : Pen) (x : ReportPath) : (s.setReport p x).pending = s.pending := rfl

@[simp] theorem State.setEngine_heads (s : State) (x : Engine) : (s.setEngine x).heads = s.heads := rfl
@[simp] theorem State.setEngine_ctx (s : State) (x : Engine) : (s.setEngine x).ctx = s.ctx := rfl
@[simp] theorem State.setEngine_menus (s : State) (x : Engine) : (s.setEngine x).menus = s.menus := rfl
@[simp] theorem State.setEngine_pens (s : State) (x : Engine) : (s.setEngine x).pens = s.pens := rfl
@[simp] theorem State.setEngine_reports (s : State) (x : Engine) : (s.setEngine x).reports = s.reports := rfl
@[simp] theorem State.setEngine_engine (s : State) (x : Engine) : (s.setEngine x).engine = x := rfl
@[simp] theorem State.setEngine_port (s : State) (x : Engine) : (s.setEngine x).port = s.port := rfl
@[simp] theorem State.setEngine_regs (s : State) (x : Engine) : (s.setEngine x).regs = s.regs := rfl
@[simp] theorem State.setEngine_pending (s : State) (x : Engine) : (s.setEngine x).pending = s.pending := rfl

@[simp] theorem State.setPort_heads (s : State) (x : Option Access) : (s.setPort x).heads = s.heads := rfl
@[simp] theorem State.setPort_ctx (s : State) (x : Option Access) : (s.setPort x).ctx = s.ctx := rfl
@[simp] theorem State.setPort_menus (s : State) (x : Option Access) : (s.setPort x).menus = s.menus := rfl
@[simp] theorem State.setPort_pens (s : State) (x : Option Access) : (s.setPort x).pens = s.pens := rfl
@[simp] theorem State.setPort_reports (s : State) (x : Option Access) : (s.setPort x).reports = s.reports := rfl
@[simp] theorem State.setPort_engine (s : State) (x : Option Access) : (s.setPort x).engine = s.engine := rfl
@[simp] theorem State.setPort_port (s : State) (x : Option Access) : (s.setPort x).port = x := rfl
@[simp] theorem State.setPort_regs (s : State) (x : Option Access) : (s.setPort x).regs = s.regs := rfl
@[simp] theorem State.setPort_pending (s : State) (x : Option Access) : (s.setPort x).pending = s.pending := rfl

@[simp] theorem State.setRegs_heads (s : State) (x : Regs) : (s.setRegs x).heads = s.heads := rfl
@[simp] theorem State.setRegs_ctx (s : State) (x : Regs) : (s.setRegs x).ctx = s.ctx := rfl
@[simp] theorem State.setRegs_menus (s : State) (x : Regs) : (s.setRegs x).menus = s.menus := rfl
@[simp] theorem State.setRegs_pens (s : State) (x : Regs) : (s.setRegs x).pens = s.pens := rfl
@[simp] theorem State.setRegs_reports (s : State) (x : Regs) : (s.setRegs x).reports = s.reports := rfl
@[simp] theorem State.setRegs_engine (s : State) (x : Regs) : (s.setRegs x).engine = s.engine := rfl
@[simp] theorem State.setRegs_port (s : State) (x : Regs) : (s.setRegs x).port = s.port := rfl
@[simp] theorem State.setRegs_regs (s : State) (x : Regs) : (s.setRegs x).regs = x := rfl
@[simp] theorem State.setRegs_pending (s : State) (x : Regs) : (s.setRegs x).pending = s.pending := rfl

/-! ## Reading a block after an update -/

@[simp] theorem State.head_setHead_self (s : State) (h : Head) (x : HeadRx) : (s.setHead h x).head h = x := by
  cases h <;> rfl
theorem State.head_setHead (s : State) (h : Head) (x : HeadRx) (k : Head) :
    (s.setHead h x).head k = if k = h then x else s.head k := by
  cases h <;> cases k <;> rfl
@[simp] theorem State.head_setStore (s : State) (h : Head) (x : CtxStore) (k : Head) : (s.setStore h x).head k = s.head k := rfl
@[simp] theorem State.head_setMenu (s : State) (h : Head) (x : MenuUnit) (k : Head) : (s.setMenu h x).head k = s.head k := rfl
@[simp] theorem State.head_setPen (s : State) (p : Pen) (x : PenChannel) (k : Head) : (s.setPen p x).head k = s.head k := rfl
@[simp] theorem State.head_setReport (s : State) (p : Pen) (x : ReportPath) (k : Head) : (s.setReport p x).head k = s.head k := rfl
@[simp] theorem State.head_setEngine (s : State) (x : Engine) (k : Head) : (s.setEngine x).head k = s.head k := rfl
@[simp] theorem State.head_setPort (s : State) (x : Option Access) (k : Head) : (s.setPort x).head k = s.head k := rfl
@[simp] theorem State.head_setRegs (s : State) (x : Regs) (k : Head) : (s.setRegs x).head k = s.head k := rfl

@[simp] theorem State.store_setHead (s : State) (h : Head) (x : HeadRx) (k : Head) : (s.setHead h x).store k = s.store k := rfl
@[simp] theorem State.store_setStore_self (s : State) (h : Head) (x : CtxStore) : (s.setStore h x).store h = x := by
  cases h <;> rfl
theorem State.store_setStore (s : State) (h : Head) (x : CtxStore) (k : Head) :
    (s.setStore h x).store k = if k = h then x else s.store k := by
  cases h <;> cases k <;> rfl
@[simp] theorem State.store_setMenu (s : State) (h : Head) (x : MenuUnit) (k : Head) : (s.setMenu h x).store k = s.store k := rfl
@[simp] theorem State.store_setPen (s : State) (p : Pen) (x : PenChannel) (k : Head) : (s.setPen p x).store k = s.store k := rfl
@[simp] theorem State.store_setReport (s : State) (p : Pen) (x : ReportPath) (k : Head) : (s.setReport p x).store k = s.store k := rfl
@[simp] theorem State.store_setEngine (s : State) (x : Engine) (k : Head) : (s.setEngine x).store k = s.store k := rfl
@[simp] theorem State.store_setPort (s : State) (x : Option Access) (k : Head) : (s.setPort x).store k = s.store k := rfl
@[simp] theorem State.store_setRegs (s : State) (x : Regs) (k : Head) : (s.setRegs x).store k = s.store k := rfl

@[simp] theorem State.menu_setHead (s : State) (h : Head) (x : HeadRx) (k : Head) : (s.setHead h x).menu k = s.menu k := rfl
@[simp] theorem State.menu_setStore (s : State) (h : Head) (x : CtxStore) (k : Head) : (s.setStore h x).menu k = s.menu k := rfl
@[simp] theorem State.menu_setMenu_self (s : State) (h : Head) (x : MenuUnit) : (s.setMenu h x).menu h = x := by
  cases h <;> rfl
theorem State.menu_setMenu (s : State) (h : Head) (x : MenuUnit) (k : Head) :
    (s.setMenu h x).menu k = if k = h then x else s.menu k := by
  cases h <;> cases k <;> rfl
@[simp] theorem State.menu_setPen (s : State) (p : Pen) (x : PenChannel) (k : Head) : (s.setPen p x).menu k = s.menu k := rfl
@[simp] theorem State.menu_setReport (s : State) (p : Pen) (x : ReportPath) (k : Head) : (s.setReport p x).menu k = s.menu k := rfl
@[simp] theorem State.menu_setEngine (s : State) (x : Engine) (k : Head) : (s.setEngine x).menu k = s.menu k := rfl
@[simp] theorem State.menu_setPort (s : State) (x : Option Access) (k : Head) : (s.setPort x).menu k = s.menu k := rfl
@[simp] theorem State.menu_setRegs (s : State) (x : Regs) (k : Head) : (s.setRegs x).menu k = s.menu k := rfl

@[simp] theorem State.pen_setHead (s : State) (h : Head) (x : HeadRx) (q : Pen) : (s.setHead h x).pen q = s.pen q := rfl
@[simp] theorem State.pen_setStore (s : State) (h : Head) (x : CtxStore) (q : Pen) : (s.setStore h x).pen q = s.pen q := rfl
@[simp] theorem State.pen_setMenu (s : State) (h : Head) (x : MenuUnit) (q : Pen) : (s.setMenu h x).pen q = s.pen q := rfl
@[simp] theorem State.pen_setPen_self (s : State) (p : Pen) (x : PenChannel) : (s.setPen p x).pen p = x := by
  cases p <;> rfl
theorem State.pen_setPen (s : State) (p : Pen) (x : PenChannel) (q : Pen) :
    (s.setPen p x).pen q = if q = p then x else s.pen q := by
  cases p <;> cases q <;> rfl
@[simp] theorem State.pen_setReport (s : State) (p : Pen) (x : ReportPath) (q : Pen) : (s.setReport p x).pen q = s.pen q := rfl
@[simp] theorem State.pen_setEngine (s : State) (x : Engine) (q : Pen) : (s.setEngine x).pen q = s.pen q := rfl
@[simp] theorem State.pen_setPort (s : State) (x : Option Access) (q : Pen) : (s.setPort x).pen q = s.pen q := rfl
@[simp] theorem State.pen_setRegs (s : State) (x : Regs) (q : Pen) : (s.setRegs x).pen q = s.pen q := rfl

@[simp] theorem State.report_setHead (s : State) (h : Head) (x : HeadRx) (q : Pen) : (s.setHead h x).report q = s.report q := rfl
@[simp] theorem State.report_setStore (s : State) (h : Head) (x : CtxStore) (q : Pen) : (s.setStore h x).report q = s.report q := rfl
@[simp] theorem State.report_setMenu (s : State) (h : Head) (x : MenuUnit) (q : Pen) : (s.setMenu h x).report q = s.report q := rfl
@[simp] theorem State.report_setPen (s : State) (p : Pen) (x : PenChannel) (q : Pen) : (s.setPen p x).report q = s.report q := rfl
@[simp] theorem State.report_setReport_self (s : State) (p : Pen) (x : ReportPath) : (s.setReport p x).report p = x := by
  cases p <;> rfl
theorem State.report_setReport (s : State) (p : Pen) (x : ReportPath) (q : Pen) :
    (s.setReport p x).report q = if q = p then x else s.report q := by
  cases p <;> cases q <;> rfl
@[simp] theorem State.report_setEngine (s : State) (x : Engine) (q : Pen) : (s.setEngine x).report q = s.report q := rfl
@[simp] theorem State.report_setPort (s : State) (x : Option Access) (q : Pen) : (s.setPort x).report q = s.report q := rfl
@[simp] theorem State.report_setRegs (s : State) (x : Regs) (q : Pen) : (s.setRegs x).report q = s.report q := rfl

end Sys2Proof.Machine
end

