-- ==== Sys2Proof/Laws/Frames.lean ====
section
/-! SUPPORT. The footprint of every shared operation: one lemma for each, naming the fields of State that it leaves as they are. -/

namespace Sys2Proof.Machine

open Sys2Proof

@[simp] theorem State.note_frame (s : State) (n : Note) :
    (s.note n).heads = s.heads ∧ (s.note n).ctx = s.ctx ∧ (s.note n).menus = s.menus ∧ (s.note n).pens = s.pens ∧
    (s.note n).reports = s.reports ∧ (s.note n).engine = s.engine ∧ (s.note n).port = s.port ∧
    (s.note n).pending = s.pending := by
  simp [State.note]

@[simp] theorem State.answer_frame (s : State) (slot : SlotNo) (code value : Word) :
    (s.answer slot code value).heads = s.heads ∧ (s.answer slot code value).ctx = s.ctx ∧
    (s.answer slot code value).menus = s.menus ∧ (s.answer slot code value).pens = s.pens ∧
    (s.answer slot code value).reports = s.reports ∧ (s.answer slot code value).port = s.port ∧
    (s.answer slot code value).regs = s.regs ∧ (s.answer slot code value).pending = s.pending := by
  simp [State.answer]

@[simp] theorem State.count_frame (s : State) (p : Pen) (f : PenCounters → PenCounters) :
    (s.count p f).heads = s.heads ∧ (s.count p f).ctx = s.ctx ∧ (s.count p f).menus = s.menus ∧
    (s.count p f).reports = s.reports ∧ (s.count p f).engine = s.engine ∧ (s.count p f).port = s.port ∧
    (s.count p f).regs = s.regs ∧ (s.count p f).pending = s.pending := by
  simp [State.count]

/-- What `f` leaves at every pen, the walk over the pens of a head leaves. -/
theorem State.forPensOn_keeps {α : Type} (g : State → α) (s : State) (h : Head) (f : State → Pen → State)
    (hf : ∀ t p, g (f t p) = g t) : g (s.forPensOn h f) = g s := by
  have key : ∀ (l : List Pen) (u : State),
      g (l.foldl (fun t p => if t.penHead p = h then f t p else t) u) = g u := by
    intro l
    induction l with
    | nil => intro u; rfl
    | cons p ps ih =>
      intro u
      rw [List.foldl_cons, ih]
      split
      · exact hf u p
      · rfl
  exact key allPens s

/-- What `f` leaves at every pen, a fold of it over pens leaves. -/
theorem State.foldl_keeps {α : Type} (g : State → α) (f : State → Pen → State) (hf : ∀ t p, g (f t p) = g t)
    (l : List Pen) (s : State) : g (l.foldl f s) = g s := by
  induction l generalizing s with
  | nil => rfl
  | cons p ps ih => rw [List.foldl_cons, ih, hf]

@[simp] theorem State.forPensOn_heads (s : State) (h : Head) (f : State → Pen → State)
    (hf : ∀ t p, (f t p).heads = t.heads) : (s.forPensOn h f).heads = s.heads := State.forPensOn_keeps State.heads s h f hf

@[simp] theorem State.forPensOn_ctx (s : State) (h : Head) (f : State → Pen → State)
    (hf : ∀ t p, (f t p).ctx = t.ctx) : (s.forPensOn h f).ctx = s.ctx := State.forPensOn_keeps State.ctx s h f hf

@[simp] theorem State.forPensOn_menus (s : State) (h : Head) (f : State → Pen → State)
    (hf : ∀ t p, (f t p).menus = t.menus) : (s.forPensOn h f).menus = s.menus := State.forPensOn_keeps State.menus s h f hf

@[simp] theorem State.forPensOn_pens (s : State) (h : Head) (f : State → Pen → State)
    (hf : ∀ t p, (f t p).pens = t.pens) : (s.forPensOn h f).pens = s.pens := State.forPensOn_keeps State.pens s h f hf

@[simp] theorem State.forPensOn_reports (s : State) (h : Head) (f : State → Pen → State)
    (hf : ∀ t p, (f t p).reports = t.reports) : (s.forPensOn h f).reports = s.reports := State.forPensOn_keeps State.reports s h f hf

@[simp] theorem State.forPensOn_engine (s : State) (h : Head) (f : State → Pen → State)
    (hf : ∀ t p, (f t p).engine = t.engine) : (s.forPensOn h f).engine = s.engine := State.forPensOn_keeps State.engine s h f hf

@[simp] theorem State.forPensOn_port (s : State) (h : Head) (f : State → Pen → State)
    (hf : ∀ t p, (f t p).port = t.port) : (s.forPensOn h f).port = s.port := State.forPensOn_keeps State.port s h f hf

@[simp] theorem State.forPensOn_regs (s : State) (h : Head) (f : State → Pen → State)
    (hf : ∀ t p, (f t p).regs = t.regs) : (s.forPensOn h f).regs = s.regs := State.forPensOn_keeps State.regs s h f hf

@[simp] theorem State.forPensOn_pending (s : State) (h : Head) (f : State → Pen → State)
    (hf : ∀ t p, (f t p).pending = t.pending) : (s.forPensOn h f).pending = s.pending := State.forPensOn_keeps State.pending s h f hf

@[simp] theorem State.foldl_heads (f : State → Pen → State) (l : List Pen) (s : State)
    (hf : ∀ t p, (f t p).heads = t.heads) : (l.foldl f s).heads = s.heads := State.foldl_keeps State.heads f hf l s

@[simp] theorem State.foldl_ctx (f : State → Pen → State) (l : List Pen) (s : State)
    (hf : ∀ t p, (f t p).ctx = t.ctx) : (l.foldl f s).ctx = s.ctx := State.foldl_keeps State.ctx f hf l s

@[simp] theorem State.foldl_menus (f : State → Pen → State) (l : List Pen) (s : State)
    (hf : ∀ t p, (f t p).menus = t.menus) : (l.foldl f s).menus = s.menus := State.foldl_keeps State.menus f hf l s

@[simp] theorem State.foldl_pens (f : State → Pen → State) (l : List Pen) (s : State)
    (hf : ∀ t p, (f t p).pens = t.pens) : (l.foldl f s).pens = s.pens := State.foldl_keeps State.pens f hf l s

@[simp] theorem State.foldl_reports (f : State → Pen → State) (l : List Pen) (s : State)
    (hf : ∀ t p, (f t p).reports = t.reports) : (l.foldl f s).reports = s.reports := State.foldl_keeps State.reports f hf l s

@[simp] theorem State.foldl_engine (f : State → Pen → State) (l : List Pen) (s : State)
    (hf : ∀ t p, (f t p).engine = t.engine) : (l.foldl f s).engine = s.engine := State.foldl_keeps State.engine f hf l s

@[simp] theorem State.foldl_port (f : State → Pen → State) (l : List Pen) (s : State)
    (hf : ∀ t p, (f t p).port = t.port) : (l.foldl f s).port = s.port := State.foldl_keeps State.port f hf l s

@[simp] theorem State.foldl_regs (f : State → Pen → State) (l : List Pen) (s : State)
    (hf : ∀ t p, (f t p).regs = t.regs) : (l.foldl f s).regs = s.regs := State.foldl_keeps State.regs f hf l s

@[simp] theorem State.foldl_pending (f : State → Pen → State) (l : List Pen) (s : State)
    (hf : ∀ t p, (f t p).pending = t.pending) : (l.foldl f s).pending = s.pending := State.foldl_keeps State.pending f hf l s

@[simp] theorem State.loseRecords_frame (s : State) (p : Pen) (n : Nat) :
    (s.loseRecords p n).heads = s.heads ∧ (s.loseRecords p n).ctx = s.ctx ∧ (s.loseRecords p n).menus = s.menus ∧
    (s.loseRecords p n).pens = s.pens ∧ (s.loseRecords p n).engine = s.engine ∧ (s.loseRecords p n).port = s.port ∧
    (s.loseRecords p n).pending = s.pending := by
  unfold State.loseRecords
  refine ⟨?_, ?_, ?_, ?_, ?_, ?_, ?_⟩ <;> (repeat' split) <;> simp

@[simp] theorem State.stage_frame (s : State) (p : Pen) (record : Record) :
    (s.stage p record).heads = s.heads ∧ (s.stage p record).ctx = s.ctx ∧ (s.stage p record).menus = s.menus ∧
    (s.stage p record).pens = s.pens ∧ (s.stage p record).engine = s.engine ∧ (s.stage p record).port = s.port ∧
    (s.stage p record).pending = s.pending := by
  unfold State.stage
  refine ⟨?_, ?_, ?_, ?_, ?_, ?_, ?_⟩ <;> (dsimp only; (repeat' split) <;> simp)

@[simp] theorem State.discardFront_frame (s : State) (p : Pen) (n : Nat) :
    (s.discardFront p n).heads = s.heads ∧ (s.discardFront p n).ctx = s.ctx ∧ (s.discardFront p n).menus = s.menus ∧
    (s.discardFront p n).pens = s.pens ∧ (s.discardFront p n).engine = s.engine ∧
    (s.discardFront p n).port = s.port ∧ (s.discardFront p n).pending = s.pending := by
  simp [State.discardFront]

@[simp] theorem State.discardQueue_frame (s : State) (p : Pen) :
    (s.discardQueue p).heads = s.heads ∧ (s.discardQueue p).ctx = s.ctx ∧ (s.discardQueue p).menus = s.menus ∧
    (s.discardQueue p).pens = s.pens ∧ (s.discardQueue p).engine = s.engine ∧ (s.discardQueue p).port = s.port ∧
    (s.discardQueue p).pending = s.pending := by
  simp [State.discardQueue]

@[simp] theorem State.takePages_frame (s : State) (p : Pen) (pg : PageAddrs) :
    (s.takePages p pg).heads = s.heads ∧ (s.takePages p pg).ctx = s.ctx ∧ (s.takePages p pg).menus = s.menus ∧
    (s.takePages p pg).pens = s.pens ∧ (s.takePages p pg).engine = s.engine ∧ (s.takePages p pg).port = s.port ∧
    (s.takePages p pg).regs = s.regs ∧ (s.takePages p pg).pending = s.pending := by
  simp [State.takePages]

@[simp] theorem State.endFlush_frame (s : State) (p : Pen) :
    (s.endFlush p).heads = s.heads ∧ (s.endFlush p).ctx = s.ctx ∧ (s.endFlush p).menus = s.menus ∧
    (s.endFlush p).pens = s.pens ∧ (s.endFlush p).engine = s.engine ∧ (s.endFlush p).port = s.port ∧
    (s.endFlush p).pending = s.pending := by
  unfold State.endFlush
  refine ⟨?_, ?_, ?_, ?_, ?_, ?_, ?_⟩ <;> (repeat' split) <;> simp

@[simp] theorem State.startClose_frame (s : State) (p : Pen) :
    (s.startClose p).heads = s.heads ∧ (s.startClose p).ctx = s.ctx ∧ (s.startClose p).menus = s.menus ∧
    (s.startClose p).pens = s.pens ∧ (s.startClose p).engine = s.engine ∧ (s.startClose p).port = s.port ∧
    (s.startClose p).regs = s.regs ∧ (s.startClose p).pending = s.pending := by
  simp [State.startClose]

@[simp] theorem State.ownedNext_frame (s : State) (p : Pen) :
    (s.ownedNext p).heads = s.heads ∧ (s.ownedNext p).ctx = s.ctx ∧ (s.ownedNext p).menus = s.menus ∧
    (s.ownedNext p).pens = s.pens ∧ (s.ownedNext p).engine = s.engine ∧ (s.ownedNext p).port = s.port ∧
    (s.ownedNext p).pending = s.pending := by
  unfold State.ownedNext
  refine ⟨?_, ?_, ?_, ?_, ?_, ?_, ?_⟩ <;> (dsimp only; (repeat' split) <;> simp)

@[simp] theorem State.ownPage_frame (s : State) (p : Pen) :
    (s.ownPage p).heads = s.heads ∧ (s.ownPage p).ctx = s.ctx ∧ (s.ownPage p).menus = s.menus ∧
    (s.ownPage p).pens = s.pens ∧ (s.ownPage p).engine = s.engine ∧ (s.ownPage p).port = s.port ∧
    (s.ownPage p).pending = s.pending := by
  simp [State.ownPage]

@[simp] theorem State.stall_frame (s : State) (p : Pen) :
    (s.stall p).heads = s.heads ∧ (s.stall p).ctx = s.ctx ∧ (s.stall p).menus = s.menus ∧ (s.stall p).pens = s.pens ∧
    (s.stall p).engine = s.engine ∧ (s.stall p).port = s.port ∧ (s.stall p).pending = s.pending := by
  simp [State.stall]

@[simp] theorem State.pageRead_frame (s : State) (p : Pen) (w : Word) :
    (s.pageRead p w).heads = s.heads ∧ (s.pageRead p w).ctx = s.ctx ∧ (s.pageRead p w).menus = s.menus ∧
    (s.pageRead p w).pens = s.pens ∧ (s.pageRead p w).engine = s.engine ∧ (s.pageRead p w).port = s.port ∧
    (s.pageRead p w).pending = s.pending := by
  unfold State.pageRead
  refine ⟨?_, ?_, ?_, ?_, ?_, ?_, ?_⟩ <;> (dsimp only; (repeat' split) <;> simp)

@[simp] theorem State.recordWritten_frame (s : State) (p : Pen) (k : Nat) :
    (s.recordWritten p k).heads = s.heads ∧ (s.recordWritten p k).ctx = s.ctx ∧
    (s.recordWritten p k).menus = s.menus ∧ (s.recordWritten p k).pens = s.pens ∧
    (s.recordWritten p k).engine = s.engine ∧ (s.recordWritten p k).port = s.port ∧
    (s.recordWritten p k).pending = s.pending := by
  unfold State.recordWritten
  refine ⟨?_, ?_, ?_, ?_, ?_, ?_, ?_⟩ <;> (repeat' split) <;> simp

@[simp] theorem State.headerWritten_frame (s : State) (p : Pen) (k : Nat) :
    (s.headerWritten p k).heads = s.heads ∧ (s.headerWritten p k).ctx = s.ctx ∧
    (s.headerWritten p k).menus = s.menus ∧ (s.headerWritten p k).pens = s.pens ∧
    (s.headerWritten p k).engine = s.engine ∧ (s.headerWritten p k).port = s.port ∧
    (s.headerWritten p k).pending = s.pending := by
  unfold State.headerWritten
  refine ⟨?_, ?_, ?_, ?_, ?_, ?_, ?_⟩ <;> (dsimp only; (repeat' split) <;> simp)

@[simp] theorem State.pageFault_frame (s : State) (p : Pen) :
    (s.pageFault p).heads = s.heads ∧ (s.pageFault p).ctx = s.ctx ∧ (s.pageFault p).menus = s.menus ∧
    (s.pageFault p).pens = s.pens ∧ (s.pageFault p).engine = s.engine ∧ (s.pageFault p).port = s.port ∧
    (s.pageFault p).pending = s.pending := by
  unfold State.pageFault
  refine ⟨?_, ?_, ?_, ?_, ?_, ?_, ?_⟩ <;> (dsimp only; (repeat' split) <;> simp)

@[simp] theorem State.reportBoundary_frame (s : State) (p : Pen) :
    (s.reportBoundary p).heads = s.heads ∧ (s.reportBoundary p).ctx = s.ctx ∧ (s.reportBoundary p).menus = s.menus ∧
    (s.reportBoundary p).pens = s.pens ∧ (s.reportBoundary p).engine = s.engine ∧
    (s.reportBoundary p).port = s.port ∧ (s.reportBoundary p).pending = s.pending := by
  unfold State.reportBoundary
  refine ⟨?_, ?_, ?_, ?_, ?_, ?_, ?_⟩ <;> (dsimp only; (repeat' split) <;> simp)

@[simp] theorem State.flush_frame (s : State) (p : Pen) (next : Option PageAddrs) :
    (s.flush p next).heads = s.heads ∧ (s.flush p next).ctx = s.ctx ∧ (s.flush p next).menus = s.menus ∧
    (s.flush p next).pens = s.pens ∧ (s.flush p next).engine = s.engine ∧ (s.flush p next).port = s.port ∧
    (s.flush p next).pending = s.pending := by
  unfold State.flush
  refine ⟨?_, ?_, ?_, ?_, ?_, ?_, ?_⟩ <;> (dsimp only; (repeat' split) <;> simp)

@[simp] theorem State.reportStop_frame (s : State) (p : Pen) :
    (s.reportStop p).heads = s.heads ∧ (s.reportStop p).ctx = s.ctx ∧ (s.reportStop p).menus = s.menus ∧
    (s.reportStop p).pens = s.pens ∧ (s.reportStop p).engine = s.engine ∧ (s.reportStop p).port = s.port ∧
    (s.reportStop p).pending = s.pending := by
  simp [State.reportStop]

@[simp] theorem State.clearWindow_frame (s : State) (p : Pen) :
    (s.clearWindow p).heads = s.heads ∧ (s.clearWindow p).ctx = s.ctx ∧ (s.clearWindow p).menus = s.menus ∧
    (s.clearWindow p).reports = s.reports ∧ (s.clearWindow p).engine = s.engine ∧ (s.clearWindow p).port = s.port ∧
    (s.clearWindow p).regs = s.regs ∧ (s.clearWindow p).pending = s.pending := by
  simp [State.clearWindow]

@[simp] theorem State.clearRun_frame (s : State) (p : Pen) :
    (s.clearRun p).heads = s.heads ∧ (s.clearRun p).ctx = s.ctx ∧ (s.clearRun p).menus = s.menus ∧
    (s.clearRun p).reports = s.reports ∧ (s.clearRun p).engine = s.engine ∧ (s.clearRun p).port = s.port ∧
    (s.clearRun p).regs = s.regs ∧ (s.clearRun p).pending = s.pending := by
  simp [State.clearRun]

@[simp] theorem State.endCentreAccess_frame (s : State) (p : Pen) :
    (s.endCentreAccess p).heads = s.heads ∧ (s.endCentreAccess p).ctx = s.ctx ∧
    (s.endCentreAccess p).menus = s.menus ∧ (s.endCentreAccess p).pens = s.pens ∧
    (s.endCentreAccess p).reports = s.reports ∧ (s.endCentreAccess p).engine = s.engine ∧
    (s.endCentreAccess p).regs = s.regs ∧ (s.endCentreAccess p).pending = s.pending := by
  unfold State.endCentreAccess
  refine ⟨?_, ?_, ?_, ?_, ?_, ?_, ?_, ?_⟩ <;> (repeat' split) <;> simp

@[simp] theorem State.dropAwaitOn_frame (s : State) (h : Head) (p : Pen) :
    (s.dropAwaitOn h p).heads = s.heads ∧ (s.dropAwaitOn h p).ctx = s.ctx ∧ (s.dropAwaitOn h p).pens = s.pens ∧
    (s.dropAwaitOn h p).reports = s.reports ∧ (s.dropAwaitOn h p).engine = s.engine ∧
    (s.dropAwaitOn h p).port = s.port ∧ (s.dropAwaitOn h p).regs = s.regs ∧ (s.dropAwaitOn h p).pending = s.pending := by
  simp [State.dropAwaitOn]

@[simp] theorem State.dropAwait_frame (s : State) (p : Pen) :
    (s.dropAwait p).heads = s.heads ∧ (s.dropAwait p).ctx = s.ctx ∧ (s.dropAwait p).pens = s.pens ∧
    (s.dropAwait p).reports = s.reports ∧ (s.dropAwait p).engine = s.engine ∧ (s.dropAwait p).port = s.port ∧
    (s.dropAwait p).regs = s.regs ∧ (s.dropAwait p).pending = s.pending := by
  simp [State.dropAwait]

@[simp] theorem State.endArm_frame (s : State) (p : Pen) :
    (s.endArm p).heads = s.heads ∧ (s.endArm p).ctx = s.ctx ∧ (s.endArm p).reports = s.reports ∧
    (s.endArm p).engine = s.engine ∧ (s.endArm p).regs = s.regs ∧ (s.endArm p).pending = s.pending := by
  simp [State.endArm]

@[simp] theorem State.disarm_frame (s : State) (p : Pen) :
    (s.disarm p).heads = s.heads ∧ (s.disarm p).ctx = s.ctx ∧ (s.disarm p).engine = s.engine ∧
    (s.disarm p).pending = s.pending := by
  simp [State.disarm]

@[simp] theorem State.arm_frame (s : State) (rq : ArmRequest) (fence : Option Fence) :
    (s.arm rq fence).heads = s.heads ∧ (s.arm rq fence).ctx = s.ctx ∧ (s.arm rq fence).engine = s.engine ∧
    (s.arm rq fence).pending = s.pending := by
  unfold State.arm
  refine ⟨?_, ?_, ?_, ?_⟩ <;> (dsimp only; (repeat' split) <;> simp)

@[simp] theorem State.penStop_frame (s : State) (p : Pen) :
    (s.penStop p).heads = s.heads ∧ (s.penStop p).ctx = s.ctx ∧ (s.penStop p).menus = s.menus ∧
    (s.penStop p).reports = s.reports ∧ (s.penStop p).engine = s.engine ∧ (s.penStop p).port = s.port ∧
    (s.penStop p).regs = s.regs ∧ (s.penStop p).pending = s.pending := by
  simp [State.penStop]

@[simp] theorem State.drawingHit_frame (s : State) (t : ClassifiedHit) :
    (s.drawingHit t).heads = s.heads ∧ (s.drawingHit t).ctx = s.ctx ∧
    (s.drawingHit t).menus = s.menus ∧ (s.drawingHit t).reports = s.reports ∧
    (s.drawingHit t).engine = s.engine ∧ (s.drawingHit t).port = s.port ∧
    (s.drawingHit t).regs = s.regs ∧ (s.drawingHit t).pending = s.pending := by
  unfold State.drawingHit
  refine ⟨?_, ?_, ?_, ?_, ?_, ?_, ?_, ?_⟩ <;> (dsimp only; (repeat' split) <;> simp)

@[simp] theorem State.decision_frame (s : State) (p : Pen) (reason : CloseReason) (frame : Long) :
    (s.decision p reason frame).heads = s.heads ∧ (s.decision p reason frame).ctx = s.ctx ∧
    (s.decision p reason frame).engine = s.engine ∧ (s.decision p reason frame).pending = s.pending := by
  unfold State.decision
  refine ⟨?_, ?_, ?_, ?_⟩ <;> (dsimp only; (repeat' split) <;> simp)

@[simp] theorem State.idleJudgement_frame (s : State) (p : Pen) (frame : Long) :
    (s.idleJudgement p frame).heads = s.heads ∧ (s.idleJudgement p frame).ctx = s.ctx ∧
    (s.idleJudgement p frame).engine = s.engine ∧ (s.idleJudgement p frame).pending = s.pending := by
  unfold State.idleJudgement
  refine ⟨?_, ?_, ?_, ?_⟩ <;> (dsimp only; (repeat' split) <;> simp)

@[simp] theorem State.windowRelease_frame (s : State) (p : Pen) :
    (s.windowRelease p).heads = s.heads ∧ (s.windowRelease p).ctx = s.ctx ∧ (s.windowRelease p).engine = s.engine ∧
    (s.windowRelease p).pending = s.pending := by
  unfold State.windowRelease
  refine ⟨?_, ?_, ?_, ?_⟩ <;> (dsimp only; (repeat' split) <;> simp)

@[simp] theorem State.windowAbort_frame (s : State) (p : Pen) (reason : LossCause) :
    (s.windowAbort p reason).heads = s.heads ∧ (s.windowAbort p reason).ctx = s.ctx ∧
    (s.windowAbort p reason).menus = s.menus ∧ (s.windowAbort p reason).engine = s.engine ∧
    (s.windowAbort p reason).port = s.port ∧ (s.windowAbort p reason).pending = s.pending := by
  unfold State.windowAbort
  refine ⟨?_, ?_, ?_, ?_, ?_, ?_⟩ <;> (dsimp only; (repeat' split) <;> simp)

@[simp] theorem State.deadBandTest_frame (s : State) (p : Pen) (ws : List Word) (frame : Long) :
    (s.deadBandTest p ws frame).heads = s.heads ∧ (s.deadBandTest p ws frame).ctx = s.ctx ∧
    (s.deadBandTest p ws frame).menus = s.menus ∧ (s.deadBandTest p ws frame).engine = s.engine ∧
    (s.deadBandTest p ws frame).port = s.port ∧ (s.deadBandTest p ws frame).pending = s.pending := by
  unfold State.deadBandTest
  refine ⟨?_, ?_, ?_, ?_, ?_, ?_⟩ <;> (dsimp only; (repeat' split) <;> simp)

@[simp] theorem State.averageX_frame (s : State) (p : Pen) (ws : List Word) (frame : Long) :
    (s.averageX p ws frame).heads = s.heads ∧ (s.averageX p ws frame).ctx = s.ctx ∧
    (s.averageX p ws frame).menus = s.menus ∧ (s.averageX p ws frame).engine = s.engine ∧
    (s.averageX p ws frame).port = s.port ∧ (s.averageX p ws frame).pending = s.pending := by
  simp [State.averageX]

@[simp] theorem State.averageY_frame (s : State) (p : Pen) (ws : List Word) (frame : Long) :
    (s.averageY p ws frame).heads = s.heads ∧ (s.averageY p ws frame).ctx = s.ctx ∧
    (s.averageY p ws frame).menus = s.menus ∧ (s.averageY p ws frame).engine = s.engine ∧
    (s.averageY p ws frame).port = s.port ∧ (s.averageY p ws frame).pending = s.pending := by
  simp [State.averageY]

@[simp] theorem State.ownArmHit_frame (s : State) (arm : Nat) (t : ClassifiedHit) :
    (s.ownArmHit arm t).heads = s.heads ∧ (s.ownArmHit arm t).ctx = s.ctx ∧
    (s.ownArmHit arm t).menus = s.menus ∧ (s.ownArmHit arm t).engine = s.engine ∧
    (s.ownArmHit arm t).port = s.port ∧ (s.ownArmHit arm t).pending = s.pending := by
  unfold State.ownArmHit
  refine ⟨?_, ?_, ?_, ?_, ?_, ?_⟩ <;> (dsimp only; (repeat' split) <;> simp)

@[simp] theorem State.trackLoss_frame (s : State) (p : Pen) (cause : LossCause) (frame : Long) :
    (s.trackLoss p cause frame).heads = s.heads ∧ (s.trackLoss p cause frame).ctx = s.ctx ∧
    (s.trackLoss p cause frame).menus = s.menus ∧ (s.trackLoss p cause frame).engine = s.engine ∧
    (s.trackLoss p cause frame).port = s.port ∧ (s.trackLoss p cause frame).pending = s.pending := by
  simp [State.trackLoss]

@[simp] theorem State.missJudgement_frame (s : State) (p : Pen) (frame : Long) :
    (s.missJudgement p frame).heads = s.heads ∧ (s.missJudgement p frame).ctx = s.ctx ∧
    (s.missJudgement p frame).menus = s.menus ∧ (s.missJudgement p frame).engine = s.engine ∧
    (s.missJudgement p frame).port = s.port ∧ (s.missJudgement p frame).pending = s.pending := by
  unfold State.missJudgement
  refine ⟨?_, ?_, ?_, ?_, ?_, ?_⟩ <;> (dsimp only; (repeat' split) <;> simp)

@[simp] theorem State.trackRelease_frame (s : State) (p : Pen) :
    (s.trackRelease p).heads = s.heads ∧ (s.trackRelease p).ctx = s.ctx ∧ (s.trackRelease p).engine = s.engine ∧
    (s.trackRelease p).pending = s.pending := by
  unfold State.trackRelease
  refine ⟨?_, ?_, ?_, ?_⟩ <;> (dsimp only; (repeat' split) <;> simp)

@[simp] theorem State.trackAbort_frame (s : State) (p : Pen) (cause : LossCause) :
    (s.trackAbort p cause).heads = s.heads ∧ (s.trackAbort p cause).ctx = s.ctx ∧
    (s.trackAbort p cause).menus = s.menus ∧ (s.trackAbort p cause).engine = s.engine ∧
    (s.trackAbort p cause).port = s.port ∧ (s.trackAbort p cause).pending = s.pending := by
  unfold State.trackAbort
  refine ⟨?_, ?_, ?_, ?_, ?_, ?_⟩ <;> (dsimp only; (repeat' split) <;> simp)

@[simp] theorem State.answerLoad_frame (s : State) (h : Head) (l : PageLoad) (code : Word) (status : MenuStatus) :
    (s.answerLoad h l code status).heads = s.heads ∧ (s.answerLoad h l code status).ctx = s.ctx ∧
    (s.answerLoad h l code status).menus = s.menus ∧ (s.answerLoad h l code status).pens = s.pens ∧
    (s.answerLoad h l code status).port = s.port ∧ (s.answerLoad h l code status).pending = s.pending := by
  unfold State.answerLoad
  refine ⟨?_, ?_, ?_, ?_, ?_, ?_⟩ <;> (repeat' split) <;> simp

@[simp] theorem State.loadDone_frame (s : State) (h : Head) (l : PageLoad) (addr : Nat) (table : List Button) :
    (s.loadDone h l addr table).heads = s.heads ∧ (s.loadDone h l addr table).ctx = s.ctx ∧
    (s.loadDone h l addr table).port = s.port ∧ (s.loadDone h l addr table).pending = s.pending := by
  simp [State.loadDone, apply_ite State.heads, apply_ite State.ctx, apply_ite State.port, apply_ite State.pending]

@[simp] theorem State.loadFailed_frame (s : State) (h : Head) (l : PageLoad) (code : Word) (status : MenuStatus) :
    (s.loadFailed h l code status).heads = s.heads ∧ (s.loadFailed h l code status).ctx = s.ctx ∧
    (s.loadFailed h l code status).pens = s.pens ∧ (s.loadFailed h l code status).port = s.port ∧
    (s.loadFailed h l code status).pending = s.pending := by
  simp [State.loadFailed]

@[simp] theorem State.loadPhase_frame (s : State) (h : Head) (l : PageLoad) (ph : LoadPhase) :
    (s.loadPhase h l ph).heads = s.heads ∧ (s.loadPhase h l ph).ctx = s.ctx ∧ (s.loadPhase h l ph).pens = s.pens ∧
    (s.loadPhase h l ph).reports = s.reports ∧ (s.loadPhase h l ph).engine = s.engine ∧
    (s.loadPhase h l ph).port = s.port ∧ (s.loadPhase h l ph).regs = s.regs ∧
    (s.loadPhase h l ph).pending = s.pending := by
  simp [State.loadPhase]

@[simp] theorem State.loadRead_frame (s : State) (h : Head) (w : Word) :
    (s.loadRead h w).heads = s.heads ∧ (s.loadRead h w).ctx = s.ctx ∧ (s.loadRead h w).port = s.port ∧
    (s.loadRead h w).pending = s.pending := by
  unfold State.loadRead
  refine ⟨?_, ?_, ?_, ?_⟩ <;> (dsimp only; (repeat' split) <;> simp)

@[simp] theorem State.confirm_frame (s : State) (p : Pen) (b : Nat) (btn : Button) (frame : Long) :
    (s.confirm p b btn frame).heads = s.heads ∧ (s.confirm p b btn frame).ctx = s.ctx ∧
    (s.confirm p b btn frame).engine = s.engine ∧ (s.confirm p b btn frame).port = s.port ∧
    (s.confirm p b btn frame).pending = s.pending := by
  unfold State.confirm
  refine ⟨?_, ?_, ?_, ?_, ?_⟩ <;> (dsimp only; (repeat' split) <;> simp)

@[simp] theorem State.menuHit_frame (s : State) (t : ClassifiedHit) :
    (s.menuHit t).heads = s.heads ∧ (s.menuHit t).ctx = s.ctx ∧ (s.menuHit t).engine = s.engine ∧
    (s.menuHit t).port = s.port ∧ (s.menuHit t).pending = s.pending := by
  unfold State.menuHit
  refine ⟨?_, ?_, ?_, ?_, ?_⟩ <;> (dsimp only; (repeat' split) <;> simp)

@[simp] theorem State.runJudgement_frame (s : State) (p : Pen) (frame : Long) :
    (s.runJudgement p frame).heads = s.heads ∧ (s.runJudgement p frame).ctx = s.ctx ∧
    (s.runJudgement p frame).menus = s.menus ∧ (s.runJudgement p frame).reports = s.reports ∧
    (s.runJudgement p frame).engine = s.engine ∧ (s.runJudgement p frame).port = s.port ∧
    (s.runJudgement p frame).regs = s.regs ∧ (s.runJudgement p frame).pending = s.pending := by
  simp [State.runJudgement]

@[simp] theorem State.endCalibration_frame (s : State) (p : Pen) (c : Calibration) (code value : Word) :
    (s.endCalibration p c code value).heads = s.heads ∧ (s.endCalibration p c code value).ctx = s.ctx ∧
    (s.endCalibration p c code value).menus = s.menus ∧ (s.endCalibration p c code value).reports = s.reports ∧
    (s.endCalibration p c code value).port = s.port ∧ (s.endCalibration p c code value).regs = s.regs ∧
    (s.endCalibration p c code value).pending = s.pending := by
  simp [State.endCalibration]

@[simp] theorem State.calibrationJudgement_frame (s : State) (p : Pen) :
    (s.calibrationJudgement p).heads = s.heads ∧ (s.calibrationJudgement p).ctx = s.ctx ∧
    (s.calibrationJudgement p).menus = s.menus ∧ (s.calibrationJudgement p).reports = s.reports ∧
    (s.calibrationJudgement p).port = s.port ∧ (s.calibrationJudgement p).regs = s.regs ∧
    (s.calibrationJudgement p).pending = s.pending := by
  unfold State.calibrationJudgement
  refine ⟨?_, ?_, ?_, ?_, ?_, ?_, ?_⟩ <;> (dsimp only; (repeat' split) <;> simp)

@[simp] theorem State.disturb_frame (s : State) (p : Pen) :
    (s.disturb p).heads = s.heads ∧ (s.disturb p).ctx = s.ctx ∧ (s.disturb p).menus = s.menus ∧
    (s.disturb p).reports = s.reports ∧ (s.disturb p).port = s.port ∧ (s.disturb p).regs = s.regs ∧
    (s.disturb p).pending = s.pending := by
  unfold State.disturb
  refine ⟨?_, ?_, ?_, ?_, ?_, ?_, ?_⟩ <;> (repeat' split) <;> simp

@[simp] theorem State.setCtxSlot_frame (s : State) (h : Head) (n : SlotName) (x : CtxSlot) :
    (s.setCtxSlot h n x).heads = s.heads ∧ (s.setCtxSlot h n x).menus = s.menus ∧
    (s.setCtxSlot h n x).pens = s.pens ∧ (s.setCtxSlot h n x).reports = s.reports ∧
    (s.setCtxSlot h n x).engine = s.engine ∧ (s.setCtxSlot h n x).port = s.port ∧
    (s.setCtxSlot h n x).regs = s.regs ∧ (s.setCtxSlot h n x).pending = s.pending := by
  simp [State.setCtxSlot]

@[simp] theorem State.switchPen_frame (s : State) (p : Pen) :
    (s.switchPen p).heads = s.heads ∧ (s.switchPen p).ctx = s.ctx ∧ (s.switchPen p).menus = s.menus ∧
    (s.switchPen p).reports = s.reports ∧ (s.switchPen p).port = s.port ∧ (s.switchPen p).regs = s.regs ∧
    (s.switchPen p).pending = s.pending := by
  unfold State.switchPen
  refine ⟨?_, ?_, ?_, ?_, ?_, ?_, ?_⟩ <;> (dsimp only; (repeat' split) <;> simp)

@[simp] theorem State.boundarySwitch_frame (s : State) (h : Head) :
    (s.boundarySwitch h).heads = s.heads ∧ (s.boundarySwitch h).menus = s.menus ∧
    (s.boundarySwitch h).reports = s.reports ∧ (s.boundarySwitch h).port = s.port ∧
    (s.boundarySwitch h).regs = s.regs ∧ (s.boundarySwitch h).pending = s.pending := by
  unfold State.boundarySwitch
  refine ⟨?_, ?_, ?_, ?_, ?_, ?_⟩ <;> (repeat' split) <;> simp

@[simp] theorem State.abortSwitch_frame (s : State) (h : Head) :
    (s.abortSwitch h).heads = s.heads ∧ (s.abortSwitch h).menus = s.menus ∧ (s.abortSwitch h).pens = s.pens ∧
    (s.abortSwitch h).reports = s.reports ∧ (s.abortSwitch h).port = s.port ∧ (s.abortSwitch h).regs = s.regs ∧
    (s.abortSwitch h).pending = s.pending := by
  unfold State.abortSwitch
  refine ⟨?_, ?_, ?_, ?_, ?_, ?_, ?_⟩ <;> (repeat' split) <;> simp

@[simp] theorem State.judgePen_frame (s : State) (p : Pen) (frame : Long) (boundary : Bool) :
    (s.judgePen p frame boundary).heads = s.heads ∧ (s.judgePen p frame boundary).ctx = s.ctx ∧
    (s.judgePen p frame boundary).pending = s.pending := by
  unfold State.judgePen
  refine ⟨?_, ?_, ?_⟩ <;> (dsimp only; (repeat' split) <;> simp)

@[simp] theorem State.closeAtBoundary_frame (s : State) (p : Pen) (frame : Long) :
    (s.closeAtBoundary p frame).heads = s.heads ∧ (s.closeAtBoundary p frame).ctx = s.ctx ∧
    (s.closeAtBoundary p frame).engine = s.engine ∧ (s.closeAtBoundary p frame).pending = s.pending := by
  unfold State.closeAtBoundary
  refine ⟨?_, ?_, ?_, ?_⟩ <;> (dsimp only; (repeat' split) <;> simp)

@[simp] theorem State.markHeld_frame (s : State) (p : Pen) (held : Bool) :
    (s.markHeld p held).heads = s.heads ∧ (s.markHeld p held).ctx = s.ctx ∧ (s.markHeld p held).menus = s.menus ∧
    (s.markHeld p held).reports = s.reports ∧ (s.markHeld p held).port = s.port ∧ (s.markHeld p held).regs = s.regs ∧
    (s.markHeld p held).pending = s.pending := by
  unfold State.markHeld
  refine ⟨?_, ?_, ?_, ?_, ?_, ?_, ?_⟩ <;> (dsimp only; (repeat' split) <;> simp)

@[simp] theorem State.signalPen_frame (frame : Long) (boundary held sync : Bool) (s : State) (p : Pen) :
    (State.signalPen frame boundary held sync s p).heads = s.heads ∧
    (State.signalPen frame boundary held sync s p).ctx = s.ctx ∧
    (State.signalPen frame boundary held sync s p).pending = s.pending := by
  unfold State.signalPen
  refine ⟨?_, ?_, ?_⟩ <;> (dsimp only; (repeat' split) <;> simp)

@[simp] theorem State.frameSignal_frame (s : State) (h : Head) (boundary sync : Bool) :
    (s.frameSignal h boundary sync).pending = s.pending := by
  unfold State.frameSignal
  (dsimp only; (repeat' split) <;> simp)

@[simp] theorem State.frameStart_frame (s : State) (h : Head) :
    (s.frameStart h).pending = s.pending := by
  simp [State.frameStart]

@[simp] theorem State.syncFrameStart_frame (s : State) (h : Head) :
    (s.syncFrameStart h).pending = s.pending := by
  simp [State.syncFrameStart]

@[simp] theorem State.headerTaken_frame (s : State) (h : Head) (w : Word) (parity : Bool) :
    (s.headerTaken h w parity).pending = s.pending := by
  unfold State.headerTaken
  (dsimp only; (repeat' split) <;> simp)

@[simp] theorem State.itemTaken_frame (s : State) (h : Head) (item : List LinkWord) :
    (s.itemTaken h item).ctx = s.ctx ∧ (s.itemTaken h item).menus = s.menus ∧ (s.itemTaken h item).pens = s.pens ∧
    (s.itemTaken h item).reports = s.reports ∧ (s.itemTaken h item).engine = s.engine ∧
    (s.itemTaken h item).port = s.port ∧ (s.itemTaken h item).regs = s.regs ∧
    (s.itemTaken h item).pending = s.pending := by
  unfold State.itemTaken
  refine ⟨?_, ?_, ?_, ?_, ?_, ?_, ?_, ?_⟩ <;> (repeat' split) <;> simp

@[simp] theorem State.strobe_frame (s : State) (h : Head) (w : Word) (parity : Bool) :
    (s.strobe h w parity).pending = s.pending := by
  unfold State.strobe
  (dsimp only; (repeat' split) <;> simp)

@[simp] theorem State.penLoss_frame (cause : LossCause) (s : State) (p : Pen) :
    (State.penLoss cause s p).heads = s.heads ∧ (State.penLoss cause s p).ctx = s.ctx ∧
    (State.penLoss cause s p).menus = s.menus ∧ (State.penLoss cause s p).port = s.port ∧
    (State.penLoss cause s p).pending = s.pending := by
  unfold State.penLoss
  refine ⟨?_, ?_, ?_, ?_, ?_⟩ <;> (dsimp only; (repeat' split) <;> simp)

@[simp] theorem State.loseLink_frame (s : State) (h : Head) :
    (s.loseLink h).ctx = s.ctx ∧ (s.loseLink h).menus = s.menus ∧ (s.loseLink h).port = s.port ∧
    (s.loseLink h).pending = s.pending := by
  unfold State.loseLink
  refine ⟨?_, ?_, ?_, ?_⟩ <;> (dsimp only; (repeat' split) <;> simp)

@[simp] theorem State.disableHead_frame (s : State) (h : Head) :
    (s.disableHead h).menus = s.menus ∧ (s.disableHead h).port = s.port ∧ (s.disableHead h).pending = s.pending := by
  unfold State.disableHead
  refine ⟨?_, ?_, ?_⟩ <;> (dsimp only; (repeat' split) <;> simp)

@[simp] theorem State.enableHead_frame (s : State) (h : Head) :
    (s.enableHead h).ctx = s.ctx ∧ (s.enableHead h).menus = s.menus ∧ (s.enableHead h).pens = s.pens ∧
    (s.enableHead h).reports = s.reports ∧ (s.enableHead h).engine = s.engine ∧ (s.enableHead h).port = s.port ∧
    (s.enableHead h).regs = s.regs ∧ (s.enableHead h).pending = s.pending := by
  unfold State.enableHead
  refine ⟨?_, ?_, ?_, ?_, ?_, ?_, ?_, ?_⟩ <;> (dsimp only; (repeat' split) <;> simp)

@[simp] theorem State.holdRequest_frame (s : State) (h : Head) (slot : SlotNo) :
    (s.holdRequest h slot).ctx = s.ctx ∧ (s.holdRequest h slot).menus = s.menus ∧
    (s.holdRequest h slot).pens = s.pens ∧ (s.holdRequest h slot).reports = s.reports ∧
    (s.holdRequest h slot).port = s.port ∧ (s.holdRequest h slot).regs = s.regs ∧
    (s.holdRequest h slot).pending = s.pending := by
  unfold State.holdRequest
  refine ⟨?_, ?_, ?_, ?_, ?_, ?_, ?_⟩ <;> (dsimp only; (repeat' split) <;> simp)

@[simp] theorem State.releaseRequest_frame (s : State) (h : Head) (slot : SlotNo) :
    (s.releaseRequest h slot).ctx = s.ctx ∧ (s.releaseRequest h slot).menus = s.menus ∧
    (s.releaseRequest h slot).pens = s.pens ∧ (s.releaseRequest h slot).reports = s.reports ∧
    (s.releaseRequest h slot).port = s.port ∧ (s.releaseRequest h slot).regs = s.regs ∧
    (s.releaseRequest h slot).pending = s.pending := by
  unfold State.releaseRequest
  refine ⟨?_, ?_, ?_, ?_, ?_, ?_, ?_⟩ <;> (dsimp only; (repeat' split) <;> simp)

@[simp] theorem State.tickHead_frame (s : State) (h : Head) :
    (s.tickHead h).ctx = s.ctx ∧ (s.tickHead h).menus = s.menus ∧ (s.tickHead h).port = s.port ∧
    (s.tickHead h).pending = s.pending := by
  unfold State.tickHead
  refine ⟨?_, ?_, ?_, ?_⟩ <;> (dsimp only; (repeat' split) <;> simp)

@[simp] theorem State.passOn_frame (s : State) :
    (s.passOn).heads = s.heads ∧ (s.passOn).ctx = s.ctx ∧ (s.passOn).menus = s.menus ∧ (s.passOn).pens = s.pens ∧
    (s.passOn).reports = s.reports ∧ (s.passOn).port = s.port ∧ (s.passOn).regs = s.regs ∧
    (s.passOn).pending = s.pending := by
  simp [State.passOn]

@[simp] theorem State.reply_frame (s : State) (slot : SlotNo) (code value : Word) :
    (s.reply slot code value).heads = s.heads ∧ (s.reply slot code value).ctx = s.ctx ∧
    (s.reply slot code value).menus = s.menus ∧ (s.reply slot code value).pens = s.pens ∧
    (s.reply slot code value).reports = s.reports ∧ (s.reply slot code value).port = s.port ∧
    (s.reply slot code value).regs = s.regs ∧ (s.reply slot code value).pending = s.pending := by
  simp [State.reply]

@[simp] theorem State.work_frame (s : State) (w : Work) :
    (s.work w).heads = s.heads ∧ (s.work w).ctx = s.ctx ∧ (s.work w).menus = s.menus ∧ (s.work w).pens = s.pens ∧
    (s.work w).reports = s.reports ∧ (s.work w).port = s.port ∧ (s.work w).regs = s.regs ∧
    (s.work w).pending = s.pending := by
  simp [State.work]

@[simp] theorem State.beginScan_frame (s : State) :
    (s.beginScan).heads = s.heads ∧ (s.beginScan).ctx = s.ctx ∧ (s.beginScan).menus = s.menus ∧
    (s.beginScan).pens = s.pens ∧ (s.beginScan).reports = s.reports ∧ (s.beginScan).port = s.port ∧
    (s.beginScan).regs = s.regs ∧ (s.beginScan).pending = s.pending := by
  unfold State.beginScan
  refine ⟨?_, ?_, ?_, ?_, ?_, ?_, ?_, ?_⟩ <;> (dsimp only; (repeat' split) <;> simp)

@[simp] theorem State.stateWordRead_frame (s : State) (slot : SlotNo) (w : Word) :
    (s.stateWordRead slot w).heads = s.heads ∧ (s.stateWordRead slot w).ctx = s.ctx ∧
    (s.stateWordRead slot w).menus = s.menus ∧ (s.stateWordRead slot w).pens = s.pens ∧
    (s.stateWordRead slot w).reports = s.reports ∧ (s.stateWordRead slot w).port = s.port ∧
    (s.stateWordRead slot w).regs = s.regs ∧ (s.stateWordRead slot w).pending = s.pending := by
  unfold State.stateWordRead
  refine ⟨?_, ?_, ?_, ?_, ?_, ?_, ?_, ?_⟩ <;> (repeat' split) <;> simp

@[simp] theorem State.slotWordRead_frame (s : State) (w : Word) :
    (s.slotWordRead w).heads = s.heads ∧ (s.slotWordRead w).ctx = s.ctx ∧ (s.slotWordRead w).menus = s.menus ∧
    (s.slotWordRead w).pens = s.pens ∧ (s.slotWordRead w).reports = s.reports ∧ (s.slotWordRead w).port = s.port ∧
    (s.slotWordRead w).regs = s.regs ∧ (s.slotWordRead w).pending = s.pending := by
  unfold State.slotWordRead
  refine ⟨?_, ?_, ?_, ?_, ?_, ?_, ?_, ?_⟩ <;> (dsimp only; (repeat' split) <;> simp)

@[simp] theorem State.joinOutstanding_frame (s : State) (slot : SlotNo) :
    (s.joinOutstanding slot).heads = s.heads ∧ (s.joinOutstanding slot).ctx = s.ctx ∧
    (s.joinOutstanding slot).menus = s.menus ∧ (s.joinOutstanding slot).pens = s.pens ∧
    (s.joinOutstanding slot).reports = s.reports ∧ (s.joinOutstanding slot).port = s.port ∧
    (s.joinOutstanding slot).regs = s.regs ∧ (s.joinOutstanding slot).pending = s.pending := by
  simp [State.joinOutstanding]

@[simp] theorem State.resultWritten_frame (s : State) (k : Nat) :
    (s.resultWritten k).heads = s.heads ∧ (s.resultWritten k).ctx = s.ctx ∧ (s.resultWritten k).menus = s.menus ∧
    (s.resultWritten k).pens = s.pens ∧ (s.resultWritten k).reports = s.reports ∧ (s.resultWritten k).port = s.port ∧
    (s.resultWritten k).pending = s.pending := by
  unfold State.resultWritten
  refine ⟨?_, ?_, ?_, ?_, ?_, ?_, ?_⟩ <;> (repeat' split) <;> simp

@[simp] theorem State.doLoadContext_frame (s : State) (slot : SlotNo) (ws : List Word) :
    (s.doLoadContext slot ws).heads = s.heads ∧ (s.doLoadContext slot ws).menus = s.menus ∧
    (s.doLoadContext slot ws).pens = s.pens ∧ (s.doLoadContext slot ws).reports = s.reports ∧
    (s.doLoadContext slot ws).port = s.port ∧ (s.doLoadContext slot ws).regs = s.regs ∧
    (s.doLoadContext slot ws).pending = s.pending := by
  unfold State.doLoadContext
  refine ⟨?_, ?_, ?_, ?_, ?_, ?_, ?_⟩ <;> (dsimp only; (repeat' split) <;> simp)

@[simp] theorem State.doSwitchContext_frame (s : State) (slot : SlotNo) (ws : List Word) :
    (s.doSwitchContext slot ws).heads = s.heads ∧ (s.doSwitchContext slot ws).menus = s.menus ∧
    (s.doSwitchContext slot ws).pens = s.pens ∧ (s.doSwitchContext slot ws).reports = s.reports ∧
    (s.doSwitchContext slot ws).port = s.port ∧ (s.doSwitchContext slot ws).regs = s.regs ∧
    (s.doSwitchContext slot ws).pending = s.pending := by
  unfold State.doSwitchContext
  refine ⟨?_, ?_, ?_, ?_, ?_, ?_, ?_⟩ <;> (dsimp only; (repeat' split) <;> simp)

@[simp] theorem State.doArmPen_frame (s : State) (slot : SlotNo) (ws : List Word) :
    (s.doArmPen slot ws).heads = s.heads ∧ (s.doArmPen slot ws).ctx = s.ctx ∧
    (s.doArmPen slot ws).pending = s.pending := by
  unfold State.doArmPen
  refine ⟨?_, ?_, ?_⟩ <;> (repeat' split) <;> simp

@[simp] theorem State.doDisarmPen_frame (s : State) (slot : SlotNo) (ws : List Word) :
    (s.doDisarmPen slot ws).heads = s.heads ∧ (s.doDisarmPen slot ws).ctx = s.ctx ∧
    (s.doDisarmPen slot ws).pending = s.pending := by
  unfold State.doDisarmPen
  refine ⟨?_, ?_, ?_⟩ <;> (dsimp only; (repeat' split) <;> simp)

@[simp] theorem State.doMoveCross_frame (s : State) (slot : SlotNo) (ws : List Word) :
    (s.doMoveCross slot ws).heads = s.heads ∧ (s.doMoveCross slot ws).ctx = s.ctx ∧
    (s.doMoveCross slot ws).menus = s.menus ∧ (s.doMoveCross slot ws).reports = s.reports ∧
    (s.doMoveCross slot ws).port = s.port ∧ (s.doMoveCross slot ws).regs = s.regs ∧
    (s.doMoveCross slot ws).pending = s.pending := by
  unfold State.doMoveCross
  refine ⟨?_, ?_, ?_, ?_, ?_, ?_, ?_⟩ <;> (dsimp only; (repeat' split) <;> simp)

@[simp] theorem State.doCalibratePen_frame (s : State) (slot : SlotNo) (ws : List Word) :
    (s.doCalibratePen slot ws).heads = s.heads ∧ (s.doCalibratePen slot ws).ctx = s.ctx ∧
    (s.doCalibratePen slot ws).menus = s.menus ∧ (s.doCalibratePen slot ws).reports = s.reports ∧
    (s.doCalibratePen slot ws).port = s.port ∧ (s.doCalibratePen slot ws).regs = s.regs ∧
    (s.doCalibratePen slot ws).pending = s.pending := by
  unfold State.doCalibratePen
  refine ⟨?_, ?_, ?_, ?_, ?_, ?_, ?_⟩ <;> (dsimp only; (repeat' split) <;> simp)

@[simp] theorem State.doSetMenuPage_frame (s : State) (slot : SlotNo) (ws : List Word) :
    (s.doSetMenuPage slot ws).heads = s.heads ∧ (s.doSetMenuPage slot ws).ctx = s.ctx ∧
    (s.doSetMenuPage slot ws).pens = s.pens ∧ (s.doSetMenuPage slot ws).reports = s.reports ∧
    (s.doSetMenuPage slot ws).port = s.port ∧ (s.doSetMenuPage slot ws).regs = s.regs ∧
    (s.doSetMenuPage slot ws).pending = s.pending := by
  unfold State.doSetMenuPage
  refine ⟨?_, ?_, ?_, ?_, ?_, ?_, ?_⟩ <;> (dsimp only; (repeat' split) <;> simp)

@[simp] theorem State.doHoldHead_frame (s : State) (slot : SlotNo) (ws : List Word) :
    (s.doHoldHead slot ws).ctx = s.ctx ∧ (s.doHoldHead slot ws).menus = s.menus ∧
    (s.doHoldHead slot ws).pens = s.pens ∧ (s.doHoldHead slot ws).reports = s.reports ∧
    (s.doHoldHead slot ws).port = s.port ∧ (s.doHoldHead slot ws).regs = s.regs ∧
    (s.doHoldHead slot ws).pending = s.pending := by
  unfold State.doHoldHead
  refine ⟨?_, ?_, ?_, ?_, ?_, ?_, ?_⟩ <;> (repeat' split) <;> simp

@[simp] theorem State.doReleaseHead_frame (s : State) (slot : SlotNo) (ws : List Word) :
    (s.doReleaseHead slot ws).ctx = s.ctx ∧ (s.doReleaseHead slot ws).menus = s.menus ∧
    (s.doReleaseHead slot ws).pens = s.pens ∧ (s.doReleaseHead slot ws).reports = s.reports ∧
    (s.doReleaseHead slot ws).port = s.port ∧ (s.doReleaseHead slot ws).regs = s.regs ∧
    (s.doReleaseHead slot ws).pending = s.pending := by
  unfold State.doReleaseHead
  refine ⟨?_, ?_, ?_, ?_, ?_, ?_, ?_⟩ <;> (repeat' split) <;> simp

@[simp] theorem State.doReadCounters_frame (s : State) (slot : SlotNo) (ws : List Word) :
    (s.doReadCounters slot ws).heads = s.heads ∧ (s.doReadCounters slot ws).ctx = s.ctx ∧
    (s.doReadCounters slot ws).menus = s.menus ∧ (s.doReadCounters slot ws).pens = s.pens ∧
    (s.doReadCounters slot ws).reports = s.reports ∧ (s.doReadCounters slot ws).port = s.port ∧
    (s.doReadCounters slot ws).regs = s.regs ∧ (s.doReadCounters slot ws).pending = s.pending := by
  unfold State.doReadCounters
  refine ⟨?_, ?_, ?_, ?_, ?_, ?_, ?_, ?_⟩ <;> (dsimp only; (repeat' split) <;> simp)

@[simp] theorem State.doBadKind_frame (s : State) (slot : SlotNo) :
    (s.doBadKind slot).heads = s.heads ∧ (s.doBadKind slot).ctx = s.ctx ∧ (s.doBadKind slot).menus = s.menus ∧
    (s.doBadKind slot).pens = s.pens ∧ (s.doBadKind slot).reports = s.reports ∧ (s.doBadKind slot).port = s.port ∧
    (s.doBadKind slot).regs = s.regs ∧ (s.doBadKind slot).pending = s.pending := by
  simp [State.doBadKind]

@[simp] theorem State.fenceWordRead_frame (s : State) (w : Word) :
    (s.fenceWordRead w).heads = s.heads ∧ (s.fenceWordRead w).ctx = s.ctx ∧ (s.fenceWordRead w).pending = s.pending := by
  unfold State.fenceWordRead
  refine ⟨?_, ?_, ?_⟩ <;> (dsimp only; (repeat' split) <;> simp)

@[simp] theorem State.fenceFailed_frame (s : State) :
    (s.fenceFailed).heads = s.heads ∧ (s.fenceFailed).ctx = s.ctx ∧ (s.fenceFailed).menus = s.menus ∧
    (s.fenceFailed).pens = s.pens ∧ (s.fenceFailed).reports = s.reports ∧ (s.fenceFailed).port = s.port ∧
    (s.fenceFailed).regs = s.regs ∧ (s.fenceFailed).pending = s.pending := by
  unfold State.fenceFailed
  refine ⟨?_, ?_, ?_, ?_, ?_, ?_, ?_, ?_⟩ <;> (repeat' split) <;> simp

@[simp] theorem State.contextWordRead_frame (s : State) (w : Word) :
    (s.contextWordRead w).heads = s.heads ∧ (s.contextWordRead w).menus = s.menus ∧
    (s.contextWordRead w).pens = s.pens ∧ (s.contextWordRead w).reports = s.reports ∧
    (s.contextWordRead w).port = s.port ∧ (s.contextWordRead w).regs = s.regs ∧
    (s.contextWordRead w).pending = s.pending := by
  unfold State.contextWordRead
  refine ⟨?_, ?_, ?_, ?_, ?_, ?_, ?_⟩ <;> (dsimp only; (repeat' split) <;> simp)

@[simp] theorem State.contextFailed_frame (s : State) :
    (s.contextFailed).heads = s.heads ∧ (s.contextFailed).menus = s.menus ∧ (s.contextFailed).pens = s.pens ∧
    (s.contextFailed).reports = s.reports ∧ (s.contextFailed).port = s.port ∧ (s.contextFailed).regs = s.regs ∧
    (s.contextFailed).pending = s.pending := by
  unfold State.contextFailed
  refine ⟨?_, ?_, ?_, ?_, ?_, ?_, ?_⟩ <;> (repeat' split) <;> simp

@[simp] theorem State.snapshotWritten_frame (s : State) :
    (s.snapshotWritten).heads = s.heads ∧ (s.snapshotWritten).ctx = s.ctx ∧ (s.snapshotWritten).menus = s.menus ∧
    (s.snapshotWritten).pens = s.pens ∧ (s.snapshotWritten).reports = s.reports ∧ (s.snapshotWritten).port = s.port ∧
    (s.snapshotWritten).regs = s.regs ∧ (s.snapshotWritten).pending = s.pending := by
  unfold State.snapshotWritten
  refine ⟨?_, ?_, ?_, ?_, ?_, ?_, ?_, ?_⟩ <;> (repeat' split) <;> simp

@[simp] theorem State.snapshotFailed_frame (s : State) :
    (s.snapshotFailed).heads = s.heads ∧ (s.snapshotFailed).ctx = s.ctx ∧ (s.snapshotFailed).menus = s.menus ∧
    (s.snapshotFailed).pens = s.pens ∧ (s.snapshotFailed).reports = s.reports ∧ (s.snapshotFailed).port = s.port ∧
    (s.snapshotFailed).regs = s.regs ∧ (s.snapshotFailed).pending = s.pending := by
  unfold State.snapshotFailed
  refine ⟨?_, ?_, ?_, ?_, ?_, ?_, ?_, ?_⟩ <;> (repeat' split) <;> simp

@[simp] theorem State.clearSnapshot_frame (s : State) (k : Nat) :
    (s.clearSnapshot k).ctx = s.ctx ∧ (s.clearSnapshot k).menus = s.menus ∧ (s.clearSnapshot k).reports = s.reports ∧
    (s.clearSnapshot k).engine = s.engine ∧ (s.clearSnapshot k).port = s.port ∧ (s.clearSnapshot k).regs = s.regs ∧
    (s.clearSnapshot k).pending = s.pending := by
  unfold State.clearSnapshot
  refine ⟨?_, ?_, ?_, ?_, ?_, ?_, ?_⟩ <;> (repeat' split) <;> simp

@[simp] theorem State.takeSnapshotWord_frame (s : State) :
    (s.takeSnapshotWord).ctx = s.ctx ∧ (s.takeSnapshotWord).menus = s.menus ∧
    (s.takeSnapshotWord).reports = s.reports ∧ (s.takeSnapshotWord).port = s.port ∧
    (s.takeSnapshotWord).regs = s.regs ∧ (s.takeSnapshotWord).pending = s.pending := by
  unfold State.takeSnapshotWord
  refine ⟨?_, ?_, ?_, ?_, ?_, ?_⟩ <;> (repeat' split) <;> simp

@[simp] theorem State.grant_frame (s : State) :
    (s.grant).ctx = s.ctx ∧ (s.grant).menus = s.menus ∧ (s.grant).reports = s.reports ∧ (s.grant).regs = s.regs ∧
    (s.grant).pending = s.pending := by
  unfold State.grant
  refine ⟨?_, ?_, ?_, ?_, ?_⟩ <;> (repeat' split) <;> simp

@[simp] theorem State.endedEffect_frame (s : State) (u : Purpose) :
    (s.endedEffect u).heads = s.heads ∧ (s.endedEffect u).ctx = s.ctx ∧ (s.endedEffect u).menus = s.menus ∧
    (s.endedEffect u).pens = s.pens ∧ (s.endedEffect u).engine = s.engine ∧ (s.endedEffect u).port = s.port ∧
    (s.endedEffect u).pending = s.pending := by
  unfold State.endedEffect
  refine ⟨?_, ?_, ?_, ?_, ?_, ?_, ?_⟩ <;> (repeat' split) <;> simp

@[simp] theorem State.finishStop_frame (s : State) :
    (s.finishStop).heads = s.heads ∧ (s.finishStop).ctx = s.ctx ∧ (s.finishStop).menus = s.menus ∧
    (s.finishStop).pens = s.pens ∧ (s.finishStop).reports = s.reports ∧
    (s.finishStop).port = s.port ∧ (s.finishStop).pending = s.pending := by
  unfold State.finishStop
  refine ⟨?_, ?_, ?_, ?_, ?_, ?_, ?_⟩ <;> (repeat' split) <;> simp

/-- All that the end of a RUN stop can do: nothing, or RUNNING 0 and no scan in progress (R167, R168). -/
theorem State.finishStop_cases (s : State) :
    s.regs.stopping = true ∧ s.port = none ∧
      s.finishStop = { s with engine := { s.engine with scan := none }, regs := { s.regs with running := false } } ∨
    ¬ (s.regs.stopping = true ∧ s.port = none) ∧ s.finishStop = s := by
  unfold State.finishStop
  split
  · rename_i h; exact .inl ⟨h.1, h.2, rfl⟩
  · rename_i h; exact .inr ⟨h, rfl⟩

@[simp] theorem State.tick_frame (s : State) :
    (s.tick).ctx = s.ctx ∧ (s.tick).menus = s.menus ∧ (s.tick).pending = s.pending := by
  simp [State.tick]

@[simp] theorem State.deliverHit_frame (s : State) (t : ClassifiedHit) :
    (s.deliverHit t).heads = s.heads ∧ (s.deliverHit t).ctx = s.ctx ∧
    (s.deliverHit t).engine = s.engine ∧ (s.deliverHit t).port = s.port ∧
    (s.deliverHit t).pending = s.pending := by
  unfold State.deliverHit
  refine ⟨?_, ?_, ?_, ?_, ?_⟩ <;> (repeat' split) <;> simp

@[simp] theorem State.armedHit_frame (s : State) (p : Pen) (ws : List Word) (h : Nat) (saturated : Bool) (frame : Long) :
    (s.armedHit p ws h saturated frame).heads = s.heads ∧ (s.armedHit p ws h saturated frame).ctx = s.ctx ∧
    (s.armedHit p ws h saturated frame).engine = s.engine ∧ (s.armedHit p ws h saturated frame).port = s.port ∧
    (s.armedHit p ws h saturated frame).pending = s.pending := by
  unfold State.armedHit
  refine ⟨?_, ?_, ?_, ?_, ?_⟩ <;> (dsimp only; (repeat' split) <;> simp)

@[simp] theorem State.takeHit_frame (s : State) (p : Pen) (h : Nat) (saturated : Bool) (frame : Long) :
    (s.takeHit p h saturated frame).heads = s.heads ∧ (s.takeHit p h saturated frame).ctx = s.ctx ∧
    (s.takeHit p h saturated frame).engine = s.engine ∧ (s.takeHit p h saturated frame).port = s.port ∧
    (s.takeHit p h saturated frame).pending = s.pending := by
  unfold State.takeHit
  refine ⟨?_, ?_, ?_, ?_, ?_⟩ <;> (dsimp only; (repeat' split) <;> simp)

@[simp] theorem State.pulse_frame (s : State) (p : Pen) :
    (s.pulse p).heads = s.heads ∧ (s.pulse p).ctx = s.ctx ∧ (s.pulse p).engine = s.engine ∧
    (s.pulse p).port = s.port ∧ (s.pulse p).pending = s.pending := by
  unfold State.pulse
  refine ⟨?_, ?_, ?_, ?_, ?_⟩ <;> (dsimp only; (repeat' split) <;> simp)

@[simp] theorem State.tipCloses_frame (s : State) (p : Pen) :
    (s.tipCloses p).heads = s.heads ∧ (s.tipCloses p).ctx = s.ctx ∧ (s.tipCloses p).menus = s.menus ∧
    (s.tipCloses p).reports = s.reports ∧ (s.tipCloses p).engine = s.engine ∧ (s.tipCloses p).port = s.port ∧
    (s.tipCloses p).regs = s.regs ∧ (s.tipCloses p).pending = s.pending := by
  simp [State.tipCloses]

@[simp] theorem State.tipOpens_frame (s : State) (p : Pen) :
    (s.tipOpens p).heads = s.heads ∧ (s.tipOpens p).ctx = s.ctx ∧ (s.tipOpens p).engine = s.engine ∧
    (s.tipOpens p).pending = s.pending := by
  unfold State.tipOpens
  refine ⟨?_, ?_, ?_, ?_⟩ <;> (dsimp only; (repeat' split) <;> simp)

@[simp] theorem State.runStop_frame (s : State) :
    (s.runStop).pending = s.pending := by
  simp [State.runStop]

@[simp] theorem State.takeStart_frame (s : State) :
    (s.takeStart).ctx = s.ctx ∧ (s.takeStart).menus = s.menus ∧ (s.takeStart).pens = s.pens ∧
    (s.takeStart).reports = s.reports ∧ (s.takeStart).port = s.port ∧ (s.takeStart).pending = s.pending := by
  unfold State.takeStart
  refine ⟨?_, ?_, ?_, ?_, ?_, ?_⟩ <;> (dsimp only; (repeat' split) <;> simp)

@[simp] theorem State.takeSoftReset_frame (s : State) :
    (s.takeSoftReset).pending = s.pending := by
  rfl

@[simp] theorem State.takeHardwareReset_frame (s : State) :
    (s.takeHardwareReset).pending = s.pending := by
  rfl

@[simp] theorem State.finishReset_frame (s : State) :
    (s.finishReset).heads = s.heads ∧ (s.finishReset).ctx = s.ctx ∧ (s.finishReset).menus = s.menus ∧
    (s.finishReset).pens = s.pens ∧ (s.finishReset).reports = s.reports ∧ (s.finishReset).engine = s.engine ∧
    (s.finishReset).pending = s.pending := by
  unfold State.finishReset
  refine ⟨?_, ?_, ?_, ?_, ?_, ?_, ?_⟩ <;> (repeat' split) <;> simp

@[simp] theorem State.lowerRun_frame (s : State) :
    (s.lowerRun).pending = s.pending := by
  unfold State.lowerRun
  (repeat' split) <;> simp

@[simp] theorem State.raiseRun_frame (s : State) :
    (s.raiseRun).ctx = s.ctx ∧ (s.raiseRun).menus = s.menus ∧ (s.raiseRun).pens = s.pens ∧
    (s.raiseRun).reports = s.reports ∧ (s.raiseRun).port = s.port ∧ (s.raiseRun).pending = s.pending := by
  unfold State.raiseRun
  refine ⟨?_, ?_, ?_, ?_, ?_, ?_⟩ <;> (repeat' split) <;> simp

@[simp] theorem State.writeEnable_frame (s : State) (h : Head) (v : Bool) :
    (s.writeEnable h v).menus = s.menus ∧ (s.writeEnable h v).port = s.port ∧ (s.writeEnable h v).pending = s.pending := by
  unfold State.writeEnable
  refine ⟨?_, ?_, ?_⟩ <;> (dsimp only; (repeat' split) <;> simp)

@[simp] theorem State.writeControl_frame (s : State) (w : Word) :
    (s.writeControl w).pending = s.pending := by
  unfold State.writeControl
  (dsimp only; (repeat' split) <;> simp)

@[simp] theorem State.writeStatus_frame (s : State) (w : Word) :
    (s.writeStatus w).heads = s.heads ∧ (s.writeStatus w).ctx = s.ctx ∧ (s.writeStatus w).menus = s.menus ∧
    (s.writeStatus w).pens = s.pens ∧ (s.writeStatus w).reports = s.reports ∧ (s.writeStatus w).engine = s.engine ∧
    (s.writeStatus w).port = s.port ∧ (s.writeStatus w).pending = s.pending := by
  unfold State.writeStatus
  refine ⟨?_, ?_, ?_, ?_, ?_, ?_, ?_, ?_⟩ <;> (repeat' split) <;> simp

@[simp] theorem State.writeAnchor_frame (s : State) (w : Word) :
    (s.writeAnchor w).heads = s.heads ∧ (s.writeAnchor w).ctx = s.ctx ∧ (s.writeAnchor w).menus = s.menus ∧
    (s.writeAnchor w).pens = s.pens ∧ (s.writeAnchor w).reports = s.reports ∧ (s.writeAnchor w).engine = s.engine ∧
    (s.writeAnchor w).port = s.port ∧ (s.writeAnchor w).pending = s.pending := by
  unfold State.writeAnchor
  refine ⟨?_, ?_, ?_, ?_, ?_, ?_, ?_, ?_⟩ <;> (repeat' split) <;> simp

@[simp] theorem State.writeAttention_frame (s : State) :
    (s.writeAttention).heads = s.heads ∧ (s.writeAttention).ctx = s.ctx ∧ (s.writeAttention).menus = s.menus ∧
    (s.writeAttention).pens = s.pens ∧ (s.writeAttention).reports = s.reports ∧ (s.writeAttention).port = s.port ∧
    (s.writeAttention).regs = s.regs ∧ (s.writeAttention).pending = s.pending := by
  unfold State.writeAttention
  refine ⟨?_, ?_, ?_, ?_, ?_, ?_, ?_, ?_⟩ <;> (repeat' split) <;> simp

@[simp] theorem State.takeDeferredStart_frame (s : State) :
    (s.takeDeferredStart).ctx = s.ctx ∧ (s.takeDeferredStart).menus = s.menus ∧ (s.takeDeferredStart).pens = s.pens ∧
    (s.takeDeferredStart).reports = s.reports ∧ (s.takeDeferredStart).port = s.port ∧
    (s.takeDeferredStart).pending = s.pending := by
  unfold State.takeDeferredStart
  refine ⟨?_, ?_, ?_, ?_, ?_, ?_⟩ <;> (repeat' split) <;> simp

@[simp] theorem State.loadBusError_frame (s : State) (h : Head) :
    (s.loadBusError h).heads = s.heads ∧ (s.loadBusError h).ctx = s.ctx ∧ (s.loadBusError h).pens = s.pens ∧
    (s.loadBusError h).port = s.port ∧ (s.loadBusError h).pending = s.pending := by
  unfold State.loadBusError
  refine ⟨?_, ?_, ?_, ?_, ?_⟩ <;> (repeat' split) <;> simp

end Sys2Proof.Machine
end

