-- ==== Sys2Proof/WellFormed.lean ====
section
/-! DEFINITION. Which commands are well formed: the row's name fits the word its line or register carries (R2, R165, R181, R182). -/

namespace Sys2Proof

/-- Well-formedness of a command. A FRAME START's word is a FRAME START header; an unknown header is a bad one; a CONTROL
write has the SOFT RESET bit that its row's name says, and the RUN or enable bit that its row's name says. Every other
command is well formed with every operand. The meanings do not need it: a line takes any word, and a register any value. -/
def Instr.wellFormed : Instr → Bool
  | .frameStart _ w => headerType w == 1
  | .synchronisingFrameStart _ w => headerType w == 1
  | .stroke _ _ _ => true
  | .unknownHeader _ w parity => !(goodParity w parity && (headerType w == 1 || headerType w == 2))
  | .silenceAlignment _ => true
  | .stepPulse _ => true
  | .linkLoss _ => true
  | .penPulse _ => true
  | .tipClose _ => true
  | .tipOpen _ => true
  | .start w => w.getLsbD 0 && !w.getLsbD 3
  | .deferredStart => true
  | .runStop w => !w.getLsbD 0 && !w.getLsbD 3
  | .stopComplete _ => true
  | .headEnable h w => w.getLsbD h.enableBit && !w.getLsbD 3
  | .headDisable h w => !w.getLsbD h.enableBit && !w.getLsbD 3
  | .noteEnable w => !w.getLsbD 3
  | .softReset w => w.getLsbD 3
  | .hardwareReset => true
  | .resetComplete => true
  | .noteClear _ => true
  | .anchor _ => true
  | .attention _ => true
  | .scan => true
  | .stateWordRead _ => true
  | .slotWordRead _ => true
  | .badKind _ => true
  | .loadContext _ => true
  | .switchContext _ => true
  | .armPen _ => true
  | .disarmPen _ => true
  | .moveCross _ => true
  | .calibratePen _ => true
  | .setMenuPage _ => true
  | .holdHead _ => true
  | .releaseHead _ => true
  | .readCounters _ => true
  | .fenceRead _ => true
  | .contextWordRead _ => true
  | .snapshotWordWritten _ => true
  | .resultWordWritten _ => true
  | .menuLoadRead _ => true
  | .writeBackDone _ => true
  | .reportStateRead _ => true
  | .recordWordWritten _ => true
  | .headerWordWritten _ => true
  | .centreWordWritten _ => true
  | .wordStrobe _ _ _ => true

end Sys2Proof
end

