-- ==== Sys2Proof/Tests/Slice0.lean ====
section
/-! SUPPORT. Tests: ill-formed commands refused, and one step at a time from the spec's worked sequences and tables. -/

namespace Sys2Proof.Tests

open Sys2Proof Sys2Proof.Machine

/-! ## Helpers -/

/-- The state after a command. -/
def after (c : Instr) (s : State) : State :=
  match exec c s with
  | .next t => t
  | .fault _ => s
  | .refused _ => s

/-- A SYNCED head in frame 1041, aligned and unheld. -/
def synced : HeadRx := { HeadRx.reset with state := .synced, aligned := true, frame := 1041 }

/-- The part running with both heads SYNCED. -/
def on : State :=
  { State.reset with
    heads := { a := synced, b := synced }
    regs := { Regs.reset 1 with run := true, running := true, enableA := true, enableB := true } }

/-- The part running with head A so. -/
def onHead (x : HeadRx) : State := { on with heads := { on.heads with a := x } }

/-- A read or write in flight. -/
def flight (u : Purpose) : Option Access := some { purpose := u, addr := 0, data := none, delivery := .live }

/-- Word `i` of the context of the worked window on head A: N 4, MIN HITS 2, IDLE 3, K 3, A 4, LOSS 3, dead band 4, ranks 4, 6, 4
for classes 0 to 2, tag 640 not pickable, view 1 the half-breadth view. -/
def ctxWordAt (i : Nat) : Word :=
  if i = 40 then 0xFFFE
  else if i < 124 then 0xFFFF
  else if i = 128 then 0x0007
  else if i = 129 then 0x0464
  else if i = 133 then 0x0204
  else if i = 134 then 0x0303
  else if i = 135 then 0x0301
  else if i = 136 then 4
  else if i = 168 then 200
  else if i = 169 then 1900
  else if i = 176 ∨ i = 178 then 0xAAAB
  else if i = 177 ∨ i = 179 then 0x01A0
  else if i = 180 then 0x3CB0
  else if i = 181 then 0xFFFF
  else if i = 182 then 27136
  else if i = 183 then 24
  else if i = 186 then 53392
  else if i = 187 then 3
  else if i = 188 then 8000
  else 0

/-- That context's block. -/
def block : List Word := (List.range 256).map ctxWordAt

/-- A context store with that context active. -/
def loaded : CtxStore := { CtxStore.reset with slotA := { state := .valid, words := block } }

/-- Pen `p0` ARMED on head A in PICK mode with delay 37. -/
def pickPen : PenChannel := { PenChannel.reset false with state := .armed, delay := 37 }

/-- A pen ARMED on head A in TRACK mode, GATED with its tip CLOSED: the drag of the worked sequence. -/
def trackPen : PenChannel :=
  { PenChannel.reset true with
    state := .armed
    opts := { head := .A, mode := .track, single := false, gated := true, block := some 600, view := 1 }
    track :=
      { Tracking.reset with
        fix := .tracking, fence := some { xmin := 1000, xmax := 3000, ymin := 1500, ymax := 2600 }
        cx := 1505, cy := 2100, rx := 1505, ry := 2100 } }

/-- The part with the context on head A, pen 0 picking and pen 1 tracking. -/
def working : State :=
  { on with
    ctx := { on.ctx with a := loaded }
    pens := { on.pens with p0 := pickPen, p1 := trackPen } }

/-- A history entry of a VECTOR. -/
def vector (tag cls x0 y0 x1 y1 len s0 eff : Nat) : Stroke :=
  { kind := .vector, view := 1, tag := tag, cls := cls, x0 := x0, y0 := y0, x1 := x1, y1 := y1, len := len, s0 := s0,
    eff := eff }

/-! ## WellFormed smoke: each check refuses an ill-formed command -/

theorem test_frameStart_refuses_stroke_header : (Instr.frameStart .A 0x2000).wellFormed = false := by decide
theorem test_synchronisingFrameStart_refuses_unknown : (Instr.synchronisingFrameStart .B 0x3000).wellFormed = false := by decide
theorem test_unknownHeader_refuses_good_header : (Instr.unknownHeader .A 0x1000 false).wellFormed = false := by decide
theorem test_start_refuses_run_0 : (Instr.start 0x0006).wellFormed = false := by decide
theorem test_start_refuses_soft_reset : (Instr.start 0x0009).wellFormed = false := by decide
theorem test_runStop_refuses_run_1 : (Instr.runStop 0x0001).wellFormed = false := by decide
theorem test_headEnable_refuses_other_head : (Instr.headEnable .B 0x0003).wellFormed = false := by decide
theorem test_headDisable_refuses_enable_1 : (Instr.headDisable .A 0x0003).wellFormed = false := by decide
theorem test_noteEnable_refuses_soft_reset : (Instr.noteEnable 0x0108).wellFormed = false := by decide
theorem test_softReset_refuses_bit_0 : (Instr.softReset 0x0001).wellFormed = false := by decide
theorem test_wellFormed_accepts : (Instr.frameStart .A 0x1ABC).wellFormed = true ∧ (Instr.start 0x0007).wellFormed = true := by decide

/-! ## Stroke link (the worked sequences of chapter 1) -/

/-- Parity is odd over the data bits and the parity bit (R1): a word of zeros needs the parity bit set. -/
theorem test_parity : goodParity 0 true = true ∧ goodParity 0 false = false ∧ goodParity 0x1000 false = true := by decide

/-- The step pulse that reaches 1,048,575 sets the mark (R4). -/
theorem test_stepPulse_saturates :
    ((after (.stepPulse .A) (onHead { synced with step := 1048574 })).head .A).saturated = true := by decide

/-- Tag 313 at 51,520 cuts tag 312 to 320 and is entered (worked sequence: one frame on head A). -/
theorem test_stroke_cuts_newest :
    (({ synced with step := 51520, history := [vector 312 1 1000 2000 1300 2150 400 51200 400] } : HeadRx).enterStroke
      (vector 313 0 0 0 0 0 120 0 120)).history.map (fun e => (e.tag, e.s0, e.eff)) =
      [(312, 51200, 320), (313, 51520, 120)] := by decide

/-- Tag 88, announced before the next step pulse, cuts tag 313 to 0 and removes it (the same sequence). -/
theorem test_stroke_removes_newest :
    (({ synced with step := 51520, history := [vector 313 0 0 0 0 0 120 51520 120] } : HeadRx).enterStroke
      (vector 88 0 1190 2040 1190 2130 90 0 90)).history.map (fun e => e.tag) = [88] := by decide

/-- The thirty-third entry removes the oldest and sets the overwritten mark (R15). -/
theorem test_stroke_overwrites_oldest :
    let x := ({ synced with
      step := 100, history := (List.range 32).map (fun i => vector i 0 0 0 0 0 1 i 1) } : HeadRx).enterStroke
      (vector 99 0 0 0 0 0 1 0 1)
    x.overwritten = true ∧ x.history.length = 32 ∧ (x.history.head?.map (·.tag)) = some 1 := by decide

/-- A STROKE with x1 = 4200 is discarded with one link error (the same sequence). -/
theorem test_stroke_out_of_range :
    ((after (.stroke .A 90 true)
      (onHead { synced with item := [⟨0x2100, true⟩, ⟨0x0580, true⟩, ⟨1190, true⟩, ⟨2040, true⟩, ⟨4200, true⟩, ⟨2130, true⟩] })).head
      .A).linkErrors = 1 := by decide

/-- A FRAME START takes frame 1041 to 1042 and the count from 2 to 3 with N = 4; a pending hold is then applied (head B's sequence). -/
theorem test_frameStart_holds_after_count :
    let x := (after (.frameStart .A 0x1000)
      { working with
        heads := { working.heads with a := { synced with windowCount := 2, holdPending := true, waitingSlot := some 3 } } }).head .A
    x.frame = 1042 ∧ x.windowCount = 3 ∧ x.hold = true ∧ x.holdPending = false := by decide

/-- The synchronising frame start of a held SEEKING head is a boundary with count 0 (R6). -/
theorem test_synchronisingFrameStart :
    let x := (after (.synchronisingFrameStart .A 0x1000)
      (onHead { synced with state := .seeking, frame := 504, windowCount := 3 })).head .A
    x.state = .synced ∧ x.frame = 505 ∧ x.windowCount = 0 := by decide

/-- A link loss counts, sets FAULT and leaves SEEKING (head B's sequence). -/
theorem test_linkLoss :
    let t := after (.linkLoss .B) on
    (t.head .B).state = .seeking ∧ (t.head .B).linkLosses = 1 ∧ t.regs.notes.fault = true := by decide

/-- Silence aligns a SEEKING head and gives up a partial item (R1, R3). -/
theorem test_silence_gives_up_item :
    let x := (after (.silenceAlignment .A) (onHead { synced with aligned := false, item := [⟨0x2000, true⟩] })).head .A
    x.aligned = true ∧ x.item = [] ∧ x.linkErrors = 1 := by decide

/-- An unknown header clears the alignment flag (R2). -/
theorem test_unknownHeader :
    let x := (after (.unknownHeader .A 0x3000 true) on).head .A
    x.aligned = false ∧ x.linkErrors = 1 := by decide

/-- A STROKE header begins an item (R2). -/
theorem test_wordStrobe_begins_item : ((after (.wordStrobe .A 0x2100 true) on).head .A).item = [⟨0x2100, true⟩] := by decide

/-! ## Correlation and positions (chapter 3) -/

/-- The history of the worked sequence of unmatched reasons, after tag 88. -/
def lines : HeadRx :=
  { synced with
    overwritten := true
    history := [vector 312 1 1000 2000 1300 2150 400 51200 320, vector 88 0 1190 2040 1190 2130 90 51520 90] }

/-- EARLY at h = 30, AGED at h = 1,237 and GAP at h = 51,680, with delay 37. -/
theorem test_unmatched_reasons :
    correlate lines 37 30 false = .error .early ∧ correlate lines 37 1237 false = .error .aged ∧
    correlate lines 37 51680 false = .error .gap ∧ correlate lines 37 1048575 true = .error .overlong := by
  refine ⟨rfl, rfl, rfl, rfl⟩

/-- h = 51,500 is placed on tag 312 at k = 263, and h = 51,600 on tag 88 at (1190, 2083). -/
theorem test_matched :
    (correlate lines 37 51500 false).toOption.map (fun r => (r.1.tag, r.2)) = some (312, 263) ∧
    (correlate lines 37 51600 false).toOption.map (fun r => positionOf r.1 r.2) = some (1190, 2083) := by decide

/-- What is handed over for that hit (R47): step and effective step, kind and offset beside tag, position, category and slot. -/
theorem test_classified_hit :
    let t := working.classify .p0 block 51600 1041 (vector 88 0 1190 2040 1190 2130 90 51520 90) 43
    (t.step, t.eff, t.kind, t.offset) = (51600, 51563, .vector, 43) ∧ (t.tag, t.x, t.y) = (88, 1190, 2083) ∧
    t.cat = .drawing ∧ t.slot = .A ∧ t.pen = .p0 := by decide

/-- The table of R46: a half is rounded away from x0 in either direction. -/
theorem test_interpolation :
    interpolate 100 103 4 2 = 102 ∧ interpolate 103 100 4 2 = 101 ∧ interpolate 100 101 4 3 = 101 ∧
    interpolate 100 101 4 1 = 100 := by decide

/-- The categories of the worked sequence on head B. -/
theorem test_categories :
    categoryOf 1992 14 2 .track = .ownArm 0 ∧ categoryOf 1995 14 2 .track = .ownArm 3 ∧
    categoryOf 1996 14 2 .track = .foreign ∧ categoryOf 640 2 2 .track = .foreign ∧ categoryOf 700 15 2 .track = .menu ∧
    categoryOf 1996 14 3 .pick = .foreign ∧ categoryOf 640 2 3 .pick = .drawing ∧ categoryOf 2001 0 3 .pick = .foreign ∧
    categoryOf 2020 7 3 .pick = .foreign ∧ categoryOf 410 14 3 .pick = .foreign := by decide

/-! ## Pens -/

/-- A second pulse within 8 steps is dropped; at 8 steps it is a hit (R20). -/
theorem test_dead_time :
    deadTimeDrops (some (1041, 100)) 1041 107 = true ∧ deadTimeDrops (some (1041, 100)) 1041 108 = false ∧
    deadTimeDrops (some (1041, 100)) 1042 100 = false := by decide

/-- A pulse of a DISARMED pen is counted in HITS and IGNORED (R22). -/
theorem test_penPulse_ignored :
    let k := ((after (.penPulse .p3) on).pen .p3).counters
    k.hits = 1 ∧ k.ignored = 1 := by decide

/-- The hit of h = 51,600 makes a new entry of tag 88 at (1190, 2083) (chapters 3 and 5). -/
theorem test_penPulse_enters_candidate :
    ((after (.penPulse .p0)
      { working with heads := { working.heads with a := { lines with step := 51600 } } }).pen .p0).window.table =
      [{ tag := 88, cls := 0, view := 1, hits := 1, sumX := 1190, sumY := 2083, arrival := 1, lastHit := 1041 }] := by decide

/-- A tip open leaves a pen without entries as it is but for the tip (R78). -/
theorem test_tipOpen : ((after (.tipOpen .p0) { working with pens := { working.pens with p0 := { pickPen with tipClosed := true } } }).pen
    .p0) = pickPen := by decide

theorem test_tipClose : ((after (.tipClose .p2) on).pen .p2).tipClosed = true := by decide

/-- The tip open of the worked drag: a FINAL record is staged and the state becomes NO FIX (R138). -/
theorem test_tipOpen_releases_cross :
    let t := after (.tipOpen .p1)
      { working with reports := { working.reports with p1 := { ReportPath.reset 0 with out := .turning, turnStep := 3 } } }
    (t.pen .p1).track.fix = .noFix ∧ (t.report .p1).queue.length = 1 := by decide

/-! ## Decision and conversion (chapters 5 and 6) -/

/-- The worked table at the boundary of frame 1205. -/
def picked : WindowState :=
  { WindowState.opened with
    nextArrival := 3
    table :=
      [{ tag := 88, cls := 0, view := 1, hits := 4, sumX := 4760, sumY := 8338, arrival := 1, lastHit := 1204 },
       { tag := 312, cls := 1, view := 1, hits := 3, sumX := 3594, sumY := 6299, arrival := 2, lastHit := 1204 }] }

/-- Tag 312 wins by rank with TIE clear, at (1198, 2100) and loft (416,000, 83,333), GRID1 alone. -/
theorem test_decision :
    (winnerOf block (eligibleOf (some block) picked)).map
      (fun c => pickRecordOf block picked (eligibleOf (some block) picked) c .boundary 1205) =
    some
      { tag := 312, cls := 1, view := 1, hits := 3, eligible := 2, x := 1198, y := 2100, crowded := false, tie := false
        loft :=
          { axes := .xy, first := 416000, second := 83333, clamp1 := false, clamp2 := false, grid1 := true, grid2 := false }
        reason := .boundary, frame := 1205 } := by decide

/-- A SINGLE pen whose PICK at the boundary disarms it takes the held indication all the same (R32 step 3). -/
theorem test_signal_marks_disarmed_single_pen :
    let s := { working with
      pens := { working.pens with p0 := { pickPen with window := picked, opts := { pickPen.opts with single := true } } } }
    let c := (s.signalPen 1205 true true false .p0).pen .p0
    c.state = .disarmed ∧ c.heldMark = true := by decide +kernel

/-- The flipped body-plan axis: 50,171 through view 3, and through view 2 clamped to 0. -/
theorem test_flipped_axis :
    let v : AxisFields := { s0 := 2048, g := 6000000, flip := true, o := 0, grid := 0, min := 0, max := 300000 }
    convertAxis v 1500 = (50171, false, false) ∧ convertAxis { v with flip := false } 1500 = (0, true, false) := by decide

/-- The words of that PICK record (chapter 12, "Reading a PICK record"). -/
theorem test_record_words :
    recordWordsOf
      (.pick
        { tag := 312, cls := 1, view := 1, hits := 3, eligible := 2, x := 1198, y := 2100, crowded := false, tie := false
          loft :=
            { axes := .xy, first := 416000, second := 83333, clamp1 := false, clamp2 := false, grid1 := true, grid2 := false }
          reason := .boundary, frame := 1205 }) =
      [1, 1205, 0, 4, 4408, 801, 1198, 2100, 0x5900, 6, 0x4585, 1] := by decide

/-! ## Tracking cross (chapter 8) -/

/-- The fifth hit of the drag: the average 1512 leaves the dead band, and a centre write is raised. -/
theorem test_ownArm_average :
    let s := { working with pens := { working.pens with p1 := { trackPen with track := { trackPen.track with sumX := 4533, nX := 3 } } } }
    let arm : ClassifiedHit :=
      { pen := .p1, frame := 620, step := 900, eff := 900, tag := 1988, cls := 14, view := 1, kind := .vector, offset := 0
        x := 1513, y := 0, cat := .ownArm 0, slot := .A, ctx := block }
    let t := ((s.ownArmHit 0 arm).pen .p1).track
    (t.cx, t.cy, t.rx, t.ry, t.sumX, t.nX) = (1512, 2100, 1512, 2100, 0, 0) ∧ t.centre = .writing := by decide

/-- The TRACK record of that hit: loft 544,000 and 83,333 with GRID1. -/
theorem test_track_conversion :
    convert block 1 1512 2100 =
      { axes := .xy, first := 544000, second := 83333, clamp1 := false, clamp2 := false, grid1 := true, grid2 := false } := by
  decide

/-! ## Calibration (chapter 9) -/

/-- Frame 1109 makes the eighth good frame: sum 607 and delay 38, slot 4 DONE 38. -/
theorem test_calibration :
    let k : Calibration :=
      { slot := 4, good := 7, judged := 9, sum := 532, fwd := some { t := 248, len := 600 }, rev := some { t := 427, len := 600 } }
    let t := State.calibrationJudgement
      { on with pens := { on.pens with p2 := { pickPen with state := .calibrating, calib := some k } } } .p2
    (t.pen .p2).delay = 38 ∧ t.engine.results = [{ slot := 4, code := 0, value := 38 }] := by decide

/-- The reverse pulse of frame 1100 measures t2 = 428. -/
theorem test_calibration_hit :
    ((Calibration.fresh 4).hit (some { s0 := 20000, len := 600 }) (some { s0 := 21000, len := 600 }) 21428 false).rev =
      some { t := 428, len := 600 } := by decide

/-! ## Menus (chapter 7) -/

/-- Head B's page of the worked confirmation run. -/
def menuB : MenuUnit :=
  { MenuUnit.reset with
    current := some { number := 2, addr := 5000 }
    table :=
      [⟨700, .toggle, 0, 0, 11, false⟩, ⟨701, .momentary, 0, 0, 12, false⟩, ⟨702, .escape, 0, 0, 13, false⟩] }

/-- The run of frames 410 to 414. -/
theorem test_confirm_run :
    nextRun none 0 410 = ⟨0, 1, 410⟩ ∧ nextRun (some ⟨0, 1, 410⟩) 0 410 = ⟨0, 1, 410⟩ ∧
    nextRun (some ⟨0, 1, 410⟩) 0 411 = ⟨0, 2, 411⟩ ∧ nextRun (some ⟨0, 2, 411⟩) 1 411 = ⟨1, 1, 411⟩ ∧
    nextRun (some ⟨0, 1, 412⟩) 0 414 = ⟨0, 1, 414⟩ := by decide

/-- A lockout last hit in the ended frame survives its judgement at an ARMED pen, and lapses at a CALIBRATING one (R116, R145). -/
theorem test_runJudgement :
    let pens : PenState → PerPen PenChannel := fun st =>
      { on.pens with p0 := { pickPen with state := st, lockout := some { button := 2, last := 410 } } }
    ((State.runJudgement { on with pens := pens .armed } .p0 411).pen .p0).lockout = some { button := 2, last := 410 } ∧
    ((State.runJudgement { on with pens := pens .calibrating } .p0 411).pen .p0).lockout = none := by decide

/-- The confirmed TOGGLE flips and its index joins the dirty set. -/
theorem test_confirm_toggle :
    let r := menuB.confirmed .p2 0 ⟨700, .toggle, 0, 0, 11, false⟩ 414
    r.1.table.map (·.state) = [true, false, false] ∧ r.1.dirty = [0] ∧ r.2 = some .done := by decide

/-- The choice group of the worked sequence: button 5 takes 1, button 4 takes 0, and both are dirty. -/
theorem test_confirm_choice :
    let b : Bool → Button := fun st => ⟨0, .choice, 2, 0, 0, st⟩
    let m : MenuUnit :=
      { MenuUnit.reset with
        table := [⟨1, .page, 0, 3, 0, false⟩, ⟨2, .page, 0, 3, 0, false⟩, ⟨3, .page, 0, 3, 0, false⟩, b false, b true, b false,
          ⟨4, .toggle, 2, 0, 0, false⟩] }
    let r := m.confirmed .p2 5 (b false) 0
    (r.1.table.drop 3).map (·.state) = [false, false, true, false] ∧ r.1.dirty = [4, 5] := by decide

/-- The write-back of a button whose state changed while it was in flight keeps its index (the same sequence). -/
theorem test_writeBackDone :
    let s := { on with port := flight (.writeBack .B 0 true), menus := { on.menus with b := { menuB with dirty := [0] } } }
    ((after (.writeBackDone .done) s).menu .B).dirty = [0] ∧ ((after (.writeBackDone .busError) s).menu .B).dirty = [] := by decide

/-- A directory entry of 0 fails the load and undoes the push of a PAGE button (head A's worked sequence). -/
theorem test_menuLoadRead_badPage :
    let l : PageLoad := { page := 7, origin := .pageButton none, phase := .entryHigh 900 0 }
    let t := after (.menuLoadRead (.word 0))
      { on with port := flight (.menuLoad .A), menus := { on.menus with a := { MenuUnit.reset with stack := [3, 0], load := some l } } }
    (t.menu .A).stack = [0] ∧ (t.menu .A).load = none := by decide

/-! ## Requests, registers and the port (chapters 11 and 12) -/

/-- CONTROL and STATUS by bit (R182). -/
theorem test_registers :
    registerValue on 0 = 0x0007 ∧ registerValue on 1 = 0x000E ∧ registerValue on 2 = 1 ∧ registerValue on 3 = 0 := by decide

/-- STATUS's notes are cleared where written with 1 (R165). -/
theorem test_noteClear :
    (after (.noteClear 0x0400) { on with regs := { on.regs with notes := ⟨true, false, true, false⟩ } }).regs.notes =
      ⟨true, false, false, false⟩ := by decide

theorem test_noteEnable : (after (.noteEnable 0x0407) on).regs.enables = ⟨false, false, true, false⟩ := by decide

/-- A start from reset: head A SEEKING, a scan event waiting (R167). -/
theorem test_start :
    let t := after (.start 0x0003) State.reset
    (t.head .A).state = .seeking ∧ (t.head .B).state = .off ∧ t.regs.running = true ∧ t.engine.scanPending = true := by decide

theorem test_deferredStart :
    (after .deferredStart { State.reset with regs := { Regs.reset 0 with run := true, startWaiting := true, enableB := true } }).regs.running =
      true := by decide

/-- A RUN stop with an access in flight leaves RUNNING 1 until it ends (R168). -/
theorem test_runStop :
    let t := after (.runStop 0x0006) { on with port := flight (.resultWord 2) }
    t.regs.running = true ∧ (t.head .A).state = .off ∧
    (after (.stopComplete .done) t).regs.running = false ∧ (after (.stopComplete .done) t).regs.notes.request = true := by decide

theorem test_headDisable : ((after (.headDisable .B 0x0003) on).head .B).state = .off := by decide

theorem test_headEnable :
    ((after (.headEnable .B 0x0007) { on with heads := { on.heads with b := HeadRx.reset }, regs := { on.regs with enableB := false } }).head
      .B).state = .seeking := by decide

/-- A soft reset keeps ANCHOR, a hardware reset clears it, and both end with RESETTING 0 (R165, R169). -/
theorem test_resets :
    (after (.softReset 0x0008) on).regs.anchor = 1 ∧ (after .hardwareReset on).regs.anchor = 0 ∧
    (after .resetComplete (after (.softReset 0x0008) on)).regs.resetting = false := by decide

/-- ANCHOR takes its value modulo 16384, and only while RUNNING reads 0 (R165). -/
theorem test_anchor :
    (after (.anchor 0x4005) State.reset).regs.anchor = 5 ∧ (after (.anchor 0x4005) on).regs.anchor = 1 := by decide

theorem test_attention : (after (.attention 0) on).engine.scanPending = true := by decide

/-- After a hardware reset the first scan begins with slot 0 (R172): its state word is read at the anchor address. -/
theorem test_scan :
    (after .scan { on with engine := { on.engine with scanPending := true } }).port =
      some { purpose := .slotState 0, addr := 256, data := none, delivery := .live } := by decide

/-- ATTENTION written while a start waits for a stop sets the flag, and the scan begins behind the stop's access (R171). -/
theorem test_scan_during_stop :
    let t := after .scan (after (.attention 0)
      { on with regs := { on.regs with startWaiting := true }, port := some { purpose := .slotWord, addr := 0, data := none, delivery := .ended } })
    t.engine.scan = some ⟨7, 0⟩ ∧ t.engine.scanPending = false ∧ t.port.map (·.purpose) = some .slotWord := by decide

/-- The end of the stop abandons that scan, so the start that waited finds none, and neither does one after the cancelling (R167). -/
theorem test_stop_leaves_no_scan :
    let s := { on with
      engine := { on.engine with scan := some ⟨7, 0⟩ }, regs := { on.regs with startWaiting := true }
      port := some { purpose := .slotWord, addr := 0, data := none, delivery := .ended } }
    let cancelled := after (.stopComplete .done) (after (.runStop 0x0006) s)
    let started := after .deferredStart (after (.stopComplete .done) s)
    (cancelled.engine.scan = none ∧ cancelled.port = none ∧ cancelled.regs.running = false ∧ cancelled.regs.run = false) ∧
    started.engine.scan = none ∧ started.engine.scanPending = true ∧ started.regs.running = true := by decide

/-- A POSTED slot is taken, and its kind word is read next (R172). -/
theorem test_stateWordRead :
    (after (.stateWordRead (.word 1)) { on with port := flight (.slotState 2), engine := { on.engine with scan := some ⟨7, 2⟩ } }).port =
      some { purpose := .slotWord, addr := 256 + 33, data := none, delivery := .live } := by decide

/-- After the thirteenth word TAKEN is written (R172). -/
theorem test_slotWordRead :
    (after (.slotWordRead (.word 0))
      { on with port := flight .slotWord, engine := { on.engine with work := .reading 2 (10 :: List.replicate 11 0) } }).port =
      some { purpose := .taken 10, addr := 256 + 32, data := some 2, delivery := .live } := by decide

/-- The part with a request of slot 3 whose TAKEN write is in flight. -/
def asked (s : State) (words : List Word) : State :=
  { s with
    port := flight (.taken (words[0]?.getD 0))
    engine := { s.engine with scan := some ⟨7, 3⟩, work := .taking 3 words } }

/-- The answers that wait after a request. -/
def answers (c : Instr) (s : State) (words : List Word) : List (Word × Word) :=
  (after c (asked s words)).engine.results.map (fun r => (r.code, r.value))

theorem test_badKind : answers (.badKind .done) on [0] = [(1, 0)] := by decide

/-- A load of the active slot while it is VALID is refused SLOT ACTIVE; of the standby slot it is accepted (R58). -/
theorem test_loadContext :
    answers (.loadContext .done) working [1, 0, 0, 0x1000, 0] = [(5, 0)] ∧
    ((after (.loadContext .done) (asked working [1, 0, 1, 0x1000, 0])).store .A).slotB.state = .loading := by decide

theorem test_switchContext_not_loaded : answers (.switchContext .done) working [2, 0] = [(4, 0)] := by decide

/-- A PICK arm at pages 0x400 and 0x464 is taken with its delay; pages that share a word are refused (R175). -/
theorem test_armPen :
    let words (b : Word) : List Word := [3, 2, 1, 0, 0, 0, 12, 0x400, 0, b, 0, 0, 0]
    ((after (.armPen .done) (asked on (words 0x464))).pen .p2).delay = 12 ∧
    answers (.armPen .done) on (words 0x460) = [(2, 0)] := by decide

/-- DISARM of a CALIBRATING pen answers its slot DISTURBED first (R29). -/
theorem test_disarmPen :
    answers (.disarmPen .done)
      { on with
        pens := { on.pens with p0 := { pickPen with state := .calibrating, calib := some { Calibration.fresh 1 with good := 5 } } } }
      [4, 0] = [(12, 5), (0, 0)] := by decide

/-- DISARM of the pen that pressed a PAGE button drops its awaiting MENU record, and the load goes on (R29, R124). -/
theorem test_disarmPen_drops_await :
    let l : PageLoad :=
      { page := 7, phase := .dirLow, origin := .pageButton (some { pen := .p0, record := ⟨0, .page, false, 0, 9, .done, 7⟩ }) }
    let s := { working with menus := { working.menus with a := { menuB with load := some l } } }
    ((after (.disarmPen .done) (asked s [4, 0])).menu .A).load = some { l with origin := .pageButton none } ∧
    ((after (.disarmPen .done) (asked s [4, 1])).menu .A).load = some l := by decide

/-- MOVE CROSS to (3500, 1200) is clamped to (3000, 1500) (chapter 8). -/
theorem test_moveCross :
    let t := ((after (.moveCross .done) (asked working [5, 1, 3500, 1200])).pen .p1).track
    (t.cx, t.cy) = (3000, 1500) := by decide

theorem test_calibratePen :
    ((after (.calibratePen .done) (asked working [6, 0])).pen .p0).state = .calibrating ∧
    answers (.calibratePen .done) on [6, 0] = [(7, 0)] := by decide

theorem test_setMenuPage :
    answers (.setMenuPage .done) on [7, 0, 16, 0] = [(10, 16)] ∧
    ((after (.setMenuPage .done) (asked on [7, 0, 5, 0])).menu .A).load =
      some { page := 5, origin := .setPage 3 false, phase := .dirLow } := by decide

/-- HOLD HEAD of a SYNCED head waits, and RELEASE HEAD cancels it (R9, R10). -/
theorem test_holdHead :
    ((after (.holdHead .done) (asked on [8, 1])).head .B).waitingSlot = some 3 ∧
    answers (.holdHead .done) State.reset [8, 1] = [(8, 0)] := by decide

theorem test_releaseHead :
    answers (.releaseHead .done) (onHead { synced with holdPending := true, waitingSlot := some 1 }) [9, 0] = [(15, 0), (0, 0)] := by
  decide

/-- READ COUNTERS writes word 0 of the snapshot first (R177). -/
theorem test_readCounters :
    (after (.readCounters .done) (asked (onHead { synced with linkErrors := 6 }) [10, 0x800, 0, 1])).port =
      some { purpose := .snapshotWord, addr := 0x800, data := some 6, delivery := .live } := by decide

theorem test_fenceRead_bus_error :
    (after (.fenceRead .busError) { on with port := flight .fenceWord, engine := { on.engine with work := .fencing 3 [] [1, 2] } }).engine.results =
      [{ slot := 3, code := 11, value := 4 }] := by decide

theorem test_contextWordRead_bus_error :
    let t := after (.contextWordRead .busError)
      { on with
        port := flight .contextWord, engine := { on.engine with work := .loading 3 .A .B 0 77 }
        ctx := { on.ctx with a := { loaded with slotB := { state := .loading, words := [] } } } }
    t.engine.results = [{ slot := 3, code := 11, value := 77 }] ∧ (t.store .A).slotB.state = .invalid := by decide

theorem test_snapshotWordWritten :
    (after (.snapshotWordWritten .done)
      { on with port := flight .snapshotWord, engine := { on.engine with work := .snapshot 3 0x800 false 63 0 } }).engine.results =
      [{ slot := 3, code := 0, value := 0 }] := by decide

/-- The state word of a result frees its slot and sets REQUEST (R174). -/
theorem test_resultWordWritten :
    let t := after (.resultWordWritten .done)
      { on with
        port := flight (.resultWord 2)
        engine := { on.engine with results := [{ slot := 3, code := 0, value := 0 }], outstanding := [3] } }
    t.engine.outstanding = [] ∧ t.regs.notes.request = true := by decide

/-- The pen and head words of the snapshot (R187). -/
theorem test_snapshot_words :
    penSnapshot { trackPen with lastUnmatched := some (.aged, 9) } { ReportPath.reset 0 with out := .owned } = 0x3211 ∧
    ctxSnapshot loaded = 2 ∧ menuSnapshot { MenuUnit.reset with stack := [0] } = 0x011F := by decide

/-! ## Report pages (chapter 10) -/

/-- Pages at 0x400 and 0x464, page 0 owned with 7 records. -/
def pathP0 : ReportPath :=
  { ReportPath.reset 0 with pages := some { page0 := 0x400, page1 := 0x464 }, out := .owned, fill := 7, seq := 41 }

/-- A re-read that finds EMPTY forms a LOST record with count 2 (worked sequence: a stall). -/
theorem test_reportStateRead :
    let r := (after (.reportStateRead (.word 0))
      { on with
        port := flight (.pageState .p0)
        reports := { on.reports with p0 := { pathP0 with out := .stalled, current := .p1, fill := 0, seq := 42, lost := 2, reread := true } } }).report .p0
    r.out = .owned ∧ r.lostRecord = some 2 ∧ r.lost = 0 := by decide

/-- The eighth record fills the page, and the close begins (the same sequence). -/
theorem test_recordWordWritten :
    let t := after (.recordWordWritten .done)
      { on with
        port := flight (.recordWord .p0 11)
        reports := { on.reports with p0 := { pathP0 with queue := [.lost 0], mark := some ⟨.boundary, 1⟩ } } }
    (t.report .p0).out = .turning ∧
    t.port = some { purpose := .headerWord .p0 0, addr := 0x401, data := some 8, delivery := .live } := by decide

/-- READY takes the sequence from 41 to 42 with the PAGE note (the same sequence). -/
theorem test_headerWordWritten :
    let t := after (.headerWordWritten .done)
      { on with port := flight (.headerWord .p0 2), reports := { on.reports with p0 := { pathP0 with out := .turning, turnStep := 2 } } }
    (t.report .p0).seq = 42 ∧ t.regs.notes.page = true := by decide

/-- A centre that changed while its pair was in flight is written once more (R132). -/
theorem test_centreWordWritten :
    ((after (.centreWordWritten .done)
      { working with
        port := flight (.centreWord .p1 true)
        pens := { working.pens with p1 := { trackPen with track := { trackPen.track with centre := .writingAgain, second := true } } } }).pen
      .p1).track.centre = .writing := by decide

/-! ## Witnesses: for each obligation with hypotheses, a state and operands that meet them, clause by clause -/

/-- An access in flight of the shape `flight` gives meets `State.inFlight` while no stop is in progress. -/
theorem flight_inFlight (u : Purpose) (s : State) (hp : s.port = flight u) (hs : s.regs.stopping = false) : s.inFlight u :=
  ⟨⟨0, none, hp⟩, hs⟩

/-- `asked` puts a request of its kind in flight. -/
theorem asked_takenInFlight (s : State) (words : List Word) (hs : s.regs.stopping = false) :
    (asked s words).takenInFlight (kindOf (words[0]?.getD 0)) 3 words :=
  ⟨⟨words[0]?.getD 0, rfl, flight_inFlight _ _ rfl hs⟩, rfl⟩

/-- The part with pen 2 CALIBRATING beside pens 0 and 1, and a switch of head A pending. -/
def measuring : State :=
  { working with
    ctx := { working.ctx with a := { loaded with slotB := { state := .valid, words := block }, switchPending := some 6 } }
    pens := { working.pens with p2 := { pickPen with state := .calibrating, calib := some (Calibration.fresh 4) } } }

theorem witness_EmptyQueueCountsPeriods :
    ∀ silence timerA timerB,
      let s := { on with heads := { a := { synced with silence := silence, linkTimer := timerA }, b := { synced with linkTimer := timerB } } }
      s.pending = [] ∧ ∀ h, (s.head h).state = .synced ∧ (s.head h).linkTimer = match h with
        | .A => timerA
        | .B => timerB := by
  intro silence timerA timerB
  refine ⟨rfl, ?_⟩
  intro h
  cases h <;> exact ⟨rfl, rfl⟩

theorem witness_ResetTakenAndCompleted : on.regs.resetting = false ∧ (0x0008 : Word).getLsbD 3 = true := by decide

theorem witness_StartTakenOrWaits :
    (State.reset.regs.resetting = false ∧ State.reset.regs.run = false ∧ State.reset.regs.running = false ∧
      State.reset.regs.startWaiting = false ∧ (∀ h, (State.reset.head h).state = .off) ∧ (0x0007 : Word).getLsbD 0 = true ∧
      (0x0007 : Word).getLsbD 3 = false) ∧
    (∃ s : State, s.regs.startWaiting = true ∧ s.regs.running = false ∧ ∀ h, (s.head h).state = .off) ∧
    (∃ s : State, s.portOk ∧ s.regs.running = false) ∧
    (∃ s : State, s.regs.resetting = false ∧ s.regs.running = true ∧ s.regs.run = false ∧
      (0x0007 : Word).getLsbD 1 = s.regs.enableA ∧ (0x0007 : Word).getLsbD 2 = s.regs.enableB) ∧
    ∃ s : State, s.regs.resetting = false ∧ s.regs.running = true ∧ s.regs.run = true ∧ s.regs.startWaiting = true ∧
      (0x0006 : Word).getLsbD 0 = false ∧ (0x0006 : Word).getLsbD 3 = false ∧
      (0x0006 : Word).getLsbD 1 = s.regs.enableA ∧ (0x0006 : Word).getLsbD 2 = s.regs.enableB :=
  ⟨⟨rfl, rfl, rfl, rfl, by intro h; cases h <;> rfl, by decide, by decide⟩,
   ⟨{ State.reset with regs := { Regs.reset 0 with run := true, startWaiting := true } }, rfl, rfl, by intro h; cases h <;> rfl⟩,
   ⟨{ State.reset with engine := { State.reset.engine with lastServed := 3 } },
    ⟨fun _ => by decide, (by intro h; cases h),
     fun _ => ⟨(by intro h; cases h <;> decide), (by intro p; cases p <;> decide), rfl, rfl, rfl, rfl, (by intro h; cases h),
       fun _ => ⟨rfl, fun _ => rfl⟩⟩⟩, rfl⟩,
   ⟨{ on with regs := { on.regs with run := false } }, by decide⟩,
   ⟨{ on with regs := { on.regs with startWaiting := true } }, by decide⟩⟩

theorem witness_RunStopTakenAndCompleted :
    (on.regs.resetting = false ∧ on.regs.run = true ∧ on.regs.running = true ∧ on.regs.startWaiting = false ∧
      (0x0006 : Word).getLsbD 0 = false ∧ (0x0006 : Word).getLsbD 3 = false ∧
      (0x0006 : Word).getLsbD 1 = on.regs.enableA ∧ (0x0006 : Word).getLsbD 2 = on.regs.enableB) ∧
    ∀ u ∈ [Purpose.headerWord .p3 2, .resultWord 2, .slotWord],
      let s := { on with
        regs := { on.regs with run := false }, port := some { purpose := u, addr := 0, data := none, delivery := .ended } }
      s.regs.stopping = true ∧ s.port.map (·.delivery) = some .ended := by decide

theorem witness_HeadEnabledOrDisabled :
    (∃ s : State, s.regs.resetting = false ∧ s.regs.startWaiting = false ∧ s.regs.enable .B = false ∧
      (s.head .B).state = .off ∧ (0x0007 : Word).getLsbD 0 = s.regs.run ∧ (0x0007 : Word).getLsbD 3 = false ∧
      (0x0007 : Word).getLsbD Head.B.enableBit = true ∧ (0x0007 : Word).getLsbD Head.A.enableBit = s.regs.enable .A ∧
      s.regs.running = s.regs.run) ∧
    (measuring.regs.resetting = false ∧ measuring.regs.enable .A = true ∧ (measuring.head .A).state ≠ .off ∧
      (0x0005 : Word).getLsbD 0 = measuring.regs.run ∧ (0x0005 : Word).getLsbD 3 = false ∧
      (0x0005 : Word).getLsbD Head.A.enableBit = false ∧ (0x0005 : Word).getLsbD Head.B.enableBit = measuring.regs.enable .B) ∧
    (measuring.penHead .p0 = .A ∧ (measuring.pen .p0).state = .armed ∧ measuring.penHead .p3 = .A ∧
      (measuring.pen .p3).state = .disarmed ∧ measuring.penHead .p2 = .A ∧ (measuring.pen .p2).state = .calibrating) :=
  ⟨⟨{ on with heads := { on.heads with b := HeadRx.reset }, regs := { on.regs with enableB := false } }, by decide⟩, by decide,
   by decide⟩

/-- The forms that touch the enable alone: written 1 during a stop and while a start waits, and written 0 for a head already OFF with a
switch pending. -/
theorem witness_HeadEnabledOrDisabled_alone :
    (∀ run : Bool, ∃ s : State, s.regs.resetting = false ∧ s.regs.running = true ∧ s.regs.run = run ∧ s.regs.startWaiting = run ∧
      s.regs.enable .B = false ∧ (if run then (0x0007 : Word) else 0x0006).getLsbD 0 = s.regs.run ∧
      (if run then (0x0007 : Word) else 0x0006).getLsbD Head.B.enableBit = true ∧
      (if run then (0x0007 : Word) else 0x0006).getLsbD Head.A.enableBit = s.regs.enable .A) ∧
    ∃ s : State, s.regs.resetting = false ∧ s.regs.run = false ∧ s.regs.enable .A = true ∧ (s.head .A).state = .off ∧
      (s.store .A).switchPending = some 6 ∧ (0x0004 : Word).getLsbD 0 = s.regs.run ∧ (0x0004 : Word).getLsbD 3 = false ∧
      (0x0004 : Word).getLsbD Head.A.enableBit = false ∧ (0x0004 : Word).getLsbD Head.B.enableBit = s.regs.enable .B :=
  ⟨fun run => ⟨{ on with regs := { on.regs with run := run, startWaiting := run, enableB := false } }, by cases run <;> decide⟩,
   ⟨{ measuring with
      heads := { measuring.heads with a := HeadRx.reset }, regs := { measuring.regs with run := false, running := false } },
    by decide⟩⟩

theorem witness_OtherRegistersWritten :
    (on.regs.resetting = false ∧ (0x0F07 : Word).getLsbD 0 = on.regs.run ∧ (0x0F07 : Word).getLsbD 1 = on.regs.enableA ∧
      (0x0F07 : Word).getLsbD 2 = on.regs.enableB ∧ (0x0F07 : Word).getLsbD 3 = false) ∧
    (after (.softReset 0x0008) on).regs.resetting = true := by decide

theorem witness_WordsTaken :
    (State.reset.head .A).state = .off ∧
    ((onHead { synced with aligned := false }).head .A).state ≠ .off ∧
    ((onHead { synced with aligned := false }).head .A).aligned = false ∧
    (on.head .A).state ≠ .off ∧ (on.head .A).aligned = true ∧ (on.head .A).item = [] ∧
    goodParity 0x2100 true = true ∧ headerType 0x2100 = 2 ∧ goodParity 0x3000 true = true ∧ headerType 0x3000 ≠ 1 ∧ headerType 0x3000 ≠ 2 ∧ goodParity 0x1000 true = false ∧
    ((onHead { synced with item := List.replicate 5 ⟨0, true⟩ }).head .A).item.length = 5 := by decide

theorem witness_StrokeItemTaken :
    let item : List LinkWord := [⟨0x2100, true⟩, ⟨0x0580, true⟩, ⟨0, true⟩, ⟨4095, true⟩, ⟨4095, true⟩, ⟨0, true⟩]
    let last : LinkWord := ⟨4095, goodParity 4095 true⟩
    let x := (onHead { synced with item := item, step := 51520, history := [vector 313 0 0 0 0 0 120 51520 120] }).head .A
    x.state = .synced ∧ x.aligned = true ∧ x.saturated = false ∧ x.item.length = 6 ∧
    (strokeOf (x.item ++ [last])).isSome = true ∧ x.history = [] ++ (x.history.getLast?).toList ∧
    (∀ n, x.history.getLast? = some n → n.s0 ≤ x.step) ∧
    strokeOf (x.item ++ [⟨0, true⟩]) = none ∧
    ({ x with state := .seeking } : HeadRx).state = .seeking := by
  refine ⟨rfl, rfl, rfl, rfl, by decide, rfl, ?_, by decide, rfl⟩
  intro n hn
  simp [onHead, on, State.head, PerHead.get, vector] at hn
  subst hn
  decide

theorem witness_FrameStartTaken :
    ((on.head .A).state = .synced ∧ (on.head .A).aligned = true ∧ (on.head .A).item = [] ∧ headerType 0x1FFF = 1) ∧
    (measuring.penHead .p0 = .A ∧ ({ measuring.pen .p0 with opts := { pickPen.opts with head := .B } } : PenChannel).opts.head ≠ .A) ∧
    ((measuring.pen .p0).state = .armed ∧ (measuring.pen .p0).opts.mode = .pick ∧ (measuring.pen .p1).state = .armed ∧
      (measuring.pen .p1).opts.mode = .track ∧ (measuring.pen .p3).state = .disarmed) ∧
    ((measuring.pen .p2).state = .calibrating ∧ (measuring.pen .p2).heldMark = false ∧
      ((measuring.judgePen .p2 1042 false).pen .p2).state = .calibrating ∧
      ((measuring.judgePen .p2 1042 false).pen .p2).calib = some { Calibration.fresh 4 with judged := 1 }) := by decide

/-- A boundary at which a SINGLE pen's PICK disarms it, so that its awaiting MENU record is dropped. -/
theorem witness_FrameStartTaken_disarms :
    let s := { working with
      pens := { working.pens with p0 := { pickPen with window := picked, opts := { pickPen.opts with single := true } } } }
    s.penHead .p0 = .A ∧ (s.pen .p0).state ≠ .disarmed ∧ ((State.signalPen 1205 true false false s .p0).pen .p0).state = .disarmed ∧
    ((State.signalPen 1205 true false true s .p0).pen .p0).state = .disarmed := by decide +kernel

theorem witness_SynchronisingFrameStartTaken :
    let x := (onHead { synced with state := .seeking }).head .A
    x.state = .seeking ∧ x.aligned = true ∧ x.item = [] ∧ headerType 0x1000 = 1 := by decide

theorem witness_LinkLost :
    (working.head .A).state = .synced ∧ working.penHead .p0 = .A ∧ (working.pen .p0).state = .armed ∧
    (working.pen .p0).opts.mode = .pick ∧ (working.pen .p1).state = .armed ∧ (working.pen .p1).opts.mode = .track ∧
    (working.pen .p1).window.table = [] ∧ (working.pen .p1).track.fix = .tracking ∧ trackPen.track.rest.fix ≠ .tracking ∧
    (working.pen .p2).state = .disarmed ∧ (measuring.pen .p2).state = .calibrating ∧
    (measuring.pen .p2).calib = some (Calibration.fresh 4) ∧ (measuring.pen .p2).opts.mode = .pick := by decide

theorem witness_TipChangesAndTrackRelease :
    (working.pen .p2).state ≠ .armed ∧ (working.pen .p0).opts.mode = .pick ∧ (working.pen .p0).opts.gated = false ∧
    (working.pen .p1).state = .armed ∧ (working.pen .p1).opts.mode = .track ∧ (working.pen .p1).track.fix ≠ .noFix ∧
    ({ trackPen with track := trackPen.track.rest } : PenChannel).track.fix = .noFix := by decide

/-- The part with the worked window in pen 0. -/
def deciding : State := { working with pens := { working.pens with p0 := { pickPen with window := picked } } }

theorem witness_WindowDecided :
    working.activeCtx (working.penHead .p0) = some block ∧ (∀ e ∈ (working.pen .p0).window.table, e.hits < ctxMinHits block) ∧
    deciding.activeCtx (deciding.penHead .p0) = some block ∧ on.activeCtx (on.penHead .p0) = none ∧
    ∃ e ∈ (deciding.pen .p0).window.table, ctxMinHits block ≤ e.hits ∧
      ∀ d ∈ (deciding.pen .p0).window.table, ctxMinHits block ≤ d.hits → d ≠ e → ctxRank block d.cls < ctxRank block e.cls := by
  decide +kernel

theorem witness_WindowCloses :
    (deciding.pen .p0).state = .armed ∧ (deciding.pen .p0).opts.mode = .pick ∧
    ({ pickPen.opts with gated := true } : ArmOptions).gated = true ∧ (deciding.pen .p0).window.table ≠ [] ∧
    deciding.activeCtx (deciding.pen .p0).opts.head = some block ∧ ctxIdle block ≠ 0 ∧
    (∃ e ∈ (deciding.pen .p0).window.table, e.lastHit = (1205 : Long) - 1) ∧
    ∀ e ∈ (deciding.pen .p0).window.table, e.lastHit ≠ (1206 : Long) - 1 := by decide +kernel

/-- The part with pen `p0`'s head at step `h` of the worked frame. -/
def atStep (h : Nat) (s : State) : State := { s with heads := { s.heads with a := { lines with step := h } } }

/-- A pulse of pen 0 at a step of the worked frame is a hit, and reaches the correlator. -/
theorem atStep_hitCorrelated (h : Nat) (s : State) (hr : s.regs.resetting = false) (hp : (s.pen .p0).deadMark = none)
    (ha : (s.pen .p0).state = .armed) (hh : s.penHead .p0 = .A) (hc : s.activeCtx .A = some block) :
    (atStep h s).hitCorrelated .p0 block := by
  have e : (atStep h s).penHead .p0 = .A := hh
  refine ⟨⟨hr, ?_⟩, ha, ?_, ?_, ?_⟩
  · intro k hk
    have : (s.pen .p0).deadMark = some (((atStep h s).head ((atStep h s).penHead .p0)).frame, k) := hk
    rw [hp] at this
    cases this
  · rw [e]; rfl
  · rw [e]; rfl
  · rw [e]; exact hc

theorem witness_PulsesCountedOnly :
    (∃ k, (trackPen.deadMark, (some (synced.frame, 4) : Option (Long × Nat))) = (none, some (synced.frame, k)) ∧ 11 < k + 8) ∧
    (on.hitTaken .p3 ∧ (on.pen .p3).state = .disarmed) ∧
    ((atStep 30 working).hitCorrelated .p0 block ∧ (atStep 30 working).correlated .p0 = .error .early) ∧
    ((atStep 51600 working).hitCorrelated .p0 block ∧
      (atStep 51600 working).correlated .p0 = .ok (vector 88 0 1190 2040 1190 2130 90 51520 90, 43)) ∧
    ({ lines with history := [vector 410 14 0 0 0 0 9 51520 9] } : HeadRx).history.map (fun e => (e.tag, e.cls)) = [(410, 14)] := by
  refine ⟨⟨4, by decide, by decide⟩, ⟨⟨rfl, ?_⟩, rfl⟩, ⟨?_, rfl⟩, ⟨?_, rfl⟩, by decide⟩
  · intro k hk; cases hk
  · exact atStep_hitCorrelated 30 working rfl rfl rfl rfl rfl
  · exact atStep_hitCorrelated 51600 working rfl rfl rfl rfl rfl

theorem witness_CorrelationOutcome :
    (36 < 37) ∧ (37 ≤ 1048575) ∧ (∀ e ∈ lines.history, 37 - 37 < e.s0) ∧
    ∃ older newer st, lines.history = older ++ st :: newer ∧ st.s0 ≤ 51500 - 37 ∧ ∀ e ∈ newer, 51500 - 37 < e.s0 :=
  ⟨by decide, by decide, by decide, [], [vector 88 0 1190 2040 1190 2130 90 51520 90],
    vector 312 1 1000 2000 1300 2150 400 51200 320, rfl, by decide, by decide⟩

theorem witness_PositionOnStroke :
    (vector 1 0 103 0 100 0 4 0 4).kind = .vector ∧ 3 < (vector 1 0 103 0 100 0 4 0 4).len ∧
    ({ vector 1 0 103 0 100 0 4 0 4 with kind := .text } : Stroke).kind ≠ .vector := by decide

theorem witness_AxisConverted : (viewFirst block 1).min ≤ (viewFirst block 1).max ∧ (viewFirst block 1).grid ≠ 0 ∧
    (viewSecond block 1).grid = 0 ∧ (block[144 + 24 * (1 : View).val + 2]?.getD 0).toNat % 256 ≤ 2 := by decide

theorem witness_DrawingHitTaken :
    (atStep 51600 working).hitCorrelated .p0 block ∧
    (∃ st k, (atStep 51600 working).correlated .p0 = .ok (st, k) ∧ st.tag ≤ 1983 ∧ st.cls ≤ 13) ∧
    ((atStep 51600 working).pen .p0).opts.mode = .pick ∧
    (ctxWord block 128).getLsbD 0 = true ∧ (ctxWord block (88 / 16)).getLsbD (88 % 16) = true ∧
    (ctxWord block (640 / 16)).getLsbD (640 % 16) = false :=
  ⟨atStep_hitCorrelated 51600 working rfl rfl rfl rfl rfl,
   ⟨vector 88 0 1190 2040 1190 2130 90 51520 90, 43, rfl, by decide, by decide⟩, by decide, by decide, by decide, by decide⟩

/-- Pen 0 tracks, with its left arm drawn from step 51,520. -/
def dragging : State :=
  { working with
    heads := { working.heads with a := { lines with history := [vector 1984 14 1400 2100 1600 2100 90 51520 90], step := 51600 } }
    pens := { working.pens with p0 := { trackPen with delay := 37 } } }

theorem witness_OwnArmHitTaken :
    dragging.hitCorrelated .p0 block ∧ (∃ st k, dragging.correlated .p0 = .ok (st, k) ∧ st.tag = 1984 + 4 * penNumber .p0) ∧
    (dragging.pen .p0).opts.mode = .track ∧ (dragging.pen .p0).track.fence = some ⟨1000, 3000, 1500, 2600⟩ ∧
    (dragging.pen .p0).opts.gated = true ∧ (dragging.pen .p0).tipClosed = true ∧ ctxAvg block = 4 ∧
    (dragging.activeCtx (dragging.penHead .p0) = some block ∧ (dragging.pen .p0).track.fix = .tracking ∧
      (dragging.pen .p0).track.lastArm ≠ some ((1042 : Long) - 1) ∧ (dragging.pen .p0).track.miss + 1 < ctxLoss block ∧
      ctxLoss block ≤ 2 + 1) ∧
    on.activeCtx .B = none := by
  refine ⟨⟨⟨rfl, ?_⟩, rfl, rfl, rfl, rfl⟩, ⟨vector 1984 14 1400 2100 1600 2100 90 51520 90, 43, rfl, rfl⟩,
    by decide, by decide, by decide, by decide, by decide, ⟨rfl, by decide, by decide, by decide, by decide⟩, rfl⟩
  intro k hk; cases hk

/-- Pen 0 over a light button of tag 700. -/
def pointing : State :=
  { working with
    heads := { working.heads with a := { lines with history := [vector 700 15 0 0 0 0 90 51520 90], step := 51600 } }
    menus := { working.menus with a := menuB } }

theorem witness_MenuHitTaken :
    pointing.hitCorrelated .p0 block ∧ (∃ st k, pointing.correlated .p0 = .ok (st, k) ∧ st.tag = 700 ∧ st.cls = 15) ∧
    ((measuring.pen .p2).state = .calibrating ∧ (measuring.pen .p0).state ≠ .calibrating) ∧
    (pointing.menu .A).load = none ∧ ((pointing.menu .A).table[0]?).map (·.tag) = some 700 ∧
    (∀ b ∈ MenuUnit.reset.table, b.tag ≠ 700) ∧ (pointing.pen .p0).lockout = none ∧ ctxK block = 3 := by
  refine ⟨⟨⟨rfl, ?_⟩, rfl, rfl, rfl, rfl⟩, ⟨vector 700 15 0 0 0 0 90 51520 90, 43, rfl, rfl, rfl⟩,
    by decide, by decide, by decide, by decide, by decide, by decide⟩
  intro k hk; cases hk

theorem witness_ButtonConfirmed :
    (pointing.menu .A).current = some ⟨2, 5000⟩ ∧
    (pointing.menu .A).table = [] ++ ⟨700, .toggle, 0, 0, 11, false⟩ :: [⟨701, .momentary, 0, 0, 12, false⟩, ⟨702, .escape, 0, 0, 13, false⟩] ∧
    pointing.penHead .p0 = .A := by decide

theorem witness_CalibrationMeasured :
    (∃ s : State, s.hitTaken .p2 ∧ (s.pen .p2).state = .calibrating ∧ (s.pen .p2).calib = some (Calibration.fresh 4) ∧
      (s.head (s.penHead .p2)).state = .synced ∧ (s.head (s.penHead .p2)).hold = false) ∧
    ((⟨4, 7, 9, 532, some ⟨248, 600⟩, some ⟨427, 600⟩⟩ : Calibration).judge.good = 8 ∧
      (⟨4, 7, 9, 532, some ⟨248, 600⟩, some ⟨427, 600⟩⟩ : Calibration).judge.sum = 607) ∧
    (⟨4, 7, 31, 532, none, none⟩ : Calibration).judge.judged = 32 := by
  refine ⟨⟨{ on with pens := { on.pens with p2 := { pickPen with state := .calibrating, calib := some (Calibration.fresh 4) } } },
    ⟨rfl, ?_⟩, rfl, rfl, rfl, rfl⟩, by decide, by decide⟩
  intro k hk; cases hk

theorem witness_ScanReadsSlots :
    (∃ s : State, s.inFlight (.slotState 2) ∧ (2 : SlotNo) ∉ s.engine.outstanding) ∧
    (∃ s : State, s.inFlight .slotWord ∧ s.engine.work = .reading 2 (List.replicate 12 0) ∧
      (List.replicate 12 (0 : Word)).length ≤ 12) ∧
    (∃ s : State, s.engine.scanPending = true ∧ s.engine.scan = none ∧ s.regs.running = true ∧ s.regs.startWaiting = true) ∧
    ∀ work ∈ [Work.none, .reading 7 [], .reading 0 (List.replicate 12 0), .taking 7 [10]],
      ∃ s : State, s.engine.results = [] ∧ s.engine.work = work ∧ s.engine.scan = some ⟨6, 0⟩ :=
  ⟨⟨{ on with port := flight (.slotState 2) }, flight_inFlight _ _ rfl rfl, by decide⟩,
   ⟨{ on with port := flight .slotWord, engine := { on.engine with work := .reading 2 (List.replicate 12 0) } },
    flight_inFlight _ _ rfl rfl, rfl, by decide⟩,
   ⟨{ on with engine := { on.engine with scanPending := true }, regs := { on.regs with startWaiting := true } }, rfl, rfl, rfl, rfl⟩,
   fun work _ => ⟨{ on with engine := { on.engine with work := work, scan := some ⟨6, 0⟩ } }, rfl, rfl, rfl⟩⟩

theorem witness_RequestAnsweredOrAbandoned :
    (asked on [0]).takenInFlight none 3 [0] ∧ (asked on [10]).takenInFlight (some .readCounters) 3 [10] :=
  ⟨asked_takenInFlight on [0] rfl, asked_takenInFlight on [10] rfl⟩

theorem witness_ContextLoaded :
    (asked working [1, 0, 1, 0xFF00, 0x003F]).takenInFlight (some .loadContext) 3 [1, 0, 1, 0xFF00, 0x003F] ∧
    addrOf 0xFF00 0x003F + 255 = 4194303 ∧
    (∃ s : State, s.inFlight .contextWord ∧ s.engine.work = .loading 3 .A .B 0 255 ∧ s.engine.results = [] ∧
      (((s.store .A).slot .B).words ++ [0] = block) ∧ ∀ c ∈ ctxChecks block, c.2 = true) ∧
    (∃ before behind, ctxChecks [] = before ++ (133, false) :: behind ∧ ∀ c ∈ before, c.2 = true) ∧
    ((block[135]?.getD 0).toNat % 8 ≤ 4 ∧ ((working.store .A).slotA).state = .valid ∧ ((on.store .A).slotA).state ≠ .valid) :=
  ⟨asked_takenInFlight working _ rfl, by decide,
   ⟨{ on with
      port := flight .contextWord
      engine := { on.engine with work := .loading 3 .A .B 0 255 }
      ctx := { on.ctx with a := { loaded with slotB := { state := .loading, words := block.take 255 } } } },
    flight_inFlight _ _ rfl rfl, rfl, rfl, by decide +kernel, by decide +kernel⟩,
   ⟨[], (ctxChecks []).drop 1, by decide, by decide⟩, by decide⟩

theorem witness_SwitchContextServed :
    (asked working [2, 0]).takenInFlight (some .switchContext) 3 [2, 0] ∧ (arg [2, 0] 4).toNat = 0 ∧
    1 < (arg [2, 2] 4).toNat ∧ (working.store .A).switchPending = none ∧ (measuring.store .A).switchPending = some 6 ∧
    ((measuring.pen .p0).state = .armed ∧ (measuring.pen .p0).opts.mode = .pick ∧ (measuring.pen .p1).state = .armed ∧
      (measuring.pen .p1).opts.mode = .track ∧ (measuring.pen .p2).state = .calibrating ∧
      (measuring.pen .p2).calib = some (Calibration.fresh 4) ∧ (measuring.pen .p3).state = .disarmed) :=
  ⟨asked_takenInFlight working _ rfl, by decide, by decide, by decide, by decide, by decide⟩

/-- An ARM PEN of pen 2 on head B: mode and view in word 6, the highest pages, the tracking block's low word in word 14. -/
def armWords (mode delay : Word) : List Word :=
  [3, 2, 1, mode, 0, 0, delay, 0xFF38, 0x003F, 0xFF9C, 0x003F, 600, 0]

theorem witness_ArmPenServed :
    (asked on (armWords 0 255)).takenInFlight (some .armPen) 3 (armWords 0 255) ∧
    (armRequestOf (armWords 0 255)).isSome = true ∧ (armRequestOf (armWords 0x0301 0xFFFF)).isSome = true ∧
    armRequestOf (armWords 0x0401 0) = none ∧ armRequestOf (armWords 0 256) = none ∧ (arg (armWords 0 255) 4).toNat = penNumber .p2 ∧
    (let ws := armWords 0x0301 0
      let a := (arg ws 11).toNat * 65536 + (arg ws 10).toNat
      let b := (arg ws 13).toNat * 65536 + (arg ws 12).toNat
      (arg ws 4).toNat = penNumber .p2 ∧ (arg ws 5).toNat = headNumber .B ∧ (arg ws 6).toNat % 256 = 1 ∧ (arg ws 6).toNat / 256 = 3 ∧
      (arg ws 7).toNat ≤ 1 ∧ (arg ws 9).toNat ≤ 255 ∧ a ≠ 0 ∧ a % 4 = 0 ∧ b % 4 = 0 ∧ a + 99 < b ∧ b + 99 = 4194303 ∧
      (arg ws 15).toNat * 65536 + (arg ws 14).toNat = 600) ∧
    ∃ s : State, s.inFlight .fenceWord ∧ s.engine.results = [] ∧
      s.engine.work = .fencing 3 (armWords 0x0301 0) [1000, 3000, 1500] :=
  ⟨asked_takenInFlight on _ rfl, by decide, by decide, by decide, by decide, by decide, by decide,
   ⟨{ on with port := flight .fenceWord, engine := { on.engine with work := .fencing 3 (armWords 0x0301 0) [1000, 3000, 1500] } },
    flight_inFlight _ _ rfl rfl, rfl, rfl⟩⟩

theorem witness_PenArmed :
    (working.pen .p1).state = .armed ∧ (working.pen .p2).state = .disarmed ∧ (working.report .p2).flushing = false := by decide

theorem witness_DisarmPenServed :
    (asked working [4, 1]).takenInFlight (some .disarmPen) 3 [4, 1] ∧ (arg [4, 1] 4).toNat = penNumber .p1 ∧
    ((asked working [4, 1]).pen .p1).state = .armed ∧ ((asked working [4, 1]).pen .p2).state = .disarmed ∧
    3 < (arg [4, 4] 4).toNat ∧
    ((asked measuring [4, 2]).takenInFlight (some .disarmPen) 3 [4, 2] ∧ (measuring.pen .p2).state = .calibrating ∧
      (measuring.pen .p2).calib = some (Calibration.fresh 4)) :=
  ⟨asked_takenInFlight working _ rfl, by decide, by decide, by decide, by decide, asked_takenInFlight measuring _ rfl, by decide,
   by decide⟩

theorem witness_FlushTaken :
    (pathP0.flushing = false ∧ pathP0.out = .owned ∧ pathP0.lostRecord = none ∧ pathP0.fill = 7 ∧ pathP0.queue = [] ∧
      ({ pathP0 with lostRecord := some 2, fill := 0 } : ReportPath).lostRecord ≠ none ∧
      ({ pathP0 with queue := [.lost 1] } : ReportPath).queue ≠ []) ∧
    (∀ out ∈ [Output.taking, .turning, .stalled, .fault, .none], ∀ queue mark next,
      let r : ReportPath := { pathP0 with out := out, turnStep := 3, queue := queue, mark := mark, pendingPages := next }
      (r.out, r.turnStep, r.queue, r.mark, r.pendingPages) = (out, 3, queue, mark, next)) ∧
    (on.pageReadInFlight .p0 = false ∧
      State.pageReadInFlight { on with port := flight (.pageState .p0) } .p0 = true) :=
  ⟨by decide, fun _ _ _ _ _ => rfl, by decide⟩

theorem witness_MoveCrossServed :
    (asked working [5, 1, 4095, 0]).takenInFlight (some .moveCross) 3 [5, 1, 4095, 0] ∧
    (arg [5, 1, 4095, 0] 4).toNat = penNumber .p1 ∧ (arg [5, 1, 4095, 0] 5).toNat = 4095 ∧
    (working.pen .p1).track.fence = some ⟨1000, 3000, 1500, 2600⟩ ∧ 4095 < (arg [5, 1, 4096, 0] 5).toNat :=
  ⟨asked_takenInFlight working _ rfl, by decide, by decide, by decide, by decide⟩

theorem witness_CalibratePenServed :
    (asked working [6, 0]).takenInFlight (some .calibratePen) 3 [6, 0] ∧ (arg [6, 0] 4).toNat = penNumber .p0 ∧
    (∀ q, q ≠ Pen.p0 → ((asked working [6, 0]).pen q).state ≠ .calibrating) ∧
    ((asked measuring [6, 0]).takenInFlight (some .calibratePen) 3 [6, 0] ∧
      ((asked measuring [6, 0]).pen .p2).state = .calibrating ∧ measuring.penHead .p2 = measuring.penHead .p0) :=
  ⟨asked_takenInFlight working _ rfl, by decide, by intro q; cases q <;> decide, asked_takenInFlight measuring _ rfl, by decide,
   by decide⟩

theorem witness_SetMenuPageServed :
    (asked on [7, 1, 15, 1]).takenInFlight (some .setMenuPage) 3 [7, 1, 15, 1] ∧
    (arg [7, 1, 15, 1] 4).toNat = 1 ∧ (arg [7, 1, 15, 1] 6).toNat ≤ 1 ∧ 1 < (arg [7, 1, 15, 2] 6).toNat :=
  ⟨asked_takenInFlight on _ rfl, by decide, by decide, by decide⟩

theorem witness_HoldAndReleaseServed :
    (asked on [8, 0]).takenInFlight (some .holdHead) 3 [8, 0] ∧ (asked on [9, 1]).takenInFlight (some .releaseHead) 3 [9, 1] ∧
    (on.head .A).state ≠ .off ∧ (on.head .A).hold = false ∧ (on.head .A).holdPending = false ∧
    ({ synced with hold := true, holdPending := true, waitingSlot := some 1 } : HeadRx).waitingSlot = some 1 :=
  ⟨asked_takenInFlight on _ rfl, asked_takenInFlight on _ rfl, by decide, by decide, by decide, rfl⟩

theorem witness_CountersRead :
    (asked on [10, 0xFFC0, 0x003F, 1]).takenInFlight (some .readCounters) 3 [10, 0xFFC0, 0x003F, 1] ∧
    addrOf 0xFFC0 0x003F + 63 = 4194303 ∧
    (∃ s : State, s.inFlight .snapshotWord ∧ s.engine.work = .snapshot 3 0x800 true 63 0) ∧
    (3 = 8 * headNumber .A + 3 ∧ 15 = 8 * headNumber .B + 7 ∧ 16 = 16 + 12 * penNumber .p0 + 0 ∧ 63 = 16 + 12 * penNumber .p3 + 11) ∧
    ∀ k ∈ [0, 3, 15, 16, 63], ∀ clear hi, ∃ s : State, s.port = none ∧ s.engine.results = [] ∧
      s.engine.work = .snapshot 3 0x800 clear k hi ∧
      s.firstWaiting =
        some { purpose := .snapshotWord, addr := 0x800 + k, data := some (snapshotValue s k hi), delivery := .live } :=
  ⟨asked_takenInFlight on _ rfl, by decide,
   ⟨{ on with port := flight .snapshotWord, engine := { on.engine with work := .snapshot 3 0x800 true 63 0 } },
    flight_inFlight _ _ rfl rfl, rfl⟩, by decide,
   fun k _ clear hi => ⟨{ on with engine := { on.engine with work := .snapshot 3 0x800 clear k hi } }, rfl, rfl, rfl, rfl⟩⟩

theorem witness_ResultWordTaken :
    ∀ k : Nat, k ≤ 2 → ∃ s : State, s.inFlight (.resultWord k) ∧ s.engine.results = [⟨3, 0, 0⟩] ∧ s.engine.resultStep = k :=
  fun k _ => ⟨{ on with port := flight (.resultWord k), engine := { on.engine with results := [⟨3, 0, 0⟩], resultStep := k } },
    flight_inFlight _ _ rfl rfl, rfl, rfl⟩

/-- Pen 1's centre write, pen 0's page read, head A's write-back and a result all wait. -/
def waitingAll : State :=
  { working with
    pens := { working.pens with p1 := { trackPen with track := { trackPen.track with centre := .writing } } }
    reports := { working.reports with p0 := { pathP0 with out := .taking } }
    menus := { working.menus with a := { menuB with dirty := [0] } }
    engine := { working.engine with results := [⟨3, 0, 0⟩] } }

theorem witness_GrantByClass :
    waitingAll.port = none ∧ (waitingAll.centreWaits .p1).isSome = true ∧ waitingAll.centreWaits .p0 = none ∧
    (waitingAll.reportWaits .p0).isSome = true ∧ (waitingAll.menuWaits .A).isSome = true ∧ waitingAll.engineWaits.isSome = true ∧
    working.centreWaits .p1 = none ∧ on.firstWaiting = none ∧ (asked on [0]).port ≠ none := by decide

theorem witness_CentreWordTaken :
    (waitingAll.pen .p1).opts.block = some 600 ∧ (waitingAll.pen .p1).track.centre ≠ .idle ∧
    (∀ second, State.inFlight { waitingAll with port := flight (.centreWord .p1 second) } (.centreWord .p1 second)) ∧
    ∃ s : State, s.port = some { purpose := .centreWord .p1 false, addr := 600, data := some 1505, delivery := .ended } ∧
      s.regs.stopping = false :=
  ⟨by decide, by decide, fun _ => flight_inFlight _ _ rfl rfl,
   ⟨{ waitingAll with port := some { purpose := .centreWord .p1 false, addr := 600, data := some 1505, delivery := .ended } }, rfl, rfl⟩⟩

theorem witness_WriteBackTaken :
    (∃ rest, (waitingAll.menu .A).dirty = 0 :: rest) ∧ (waitingAll.menu .A).current = some ⟨2, 5000⟩ ∧
    (waitingAll.menu .A).table[0]? = some ⟨700, .toggle, 0, 0, 11, false⟩ ∧
    State.inFlight { waitingAll with port := flight (.writeBack .A 0 false) } (.writeBack .A 0 false) :=
  ⟨⟨[], by decide⟩, by decide, by decide, flight_inFlight _ _ rfl rfl⟩

theorem witness_MenuLoadWordTaken :
    ∀ phase ∈ [LoadPhase.dirLow, .dirHigh 0, .entryLow 0, .entryHigh 0 0, .count 0, .buttons 0 1],
      ∃ s : State, s.inFlight (.menuLoad .A) ∧ (s.menu .A).dirty = [] ∧
        (s.menu .A).load = some { page := 0, origin := .setPage 3 true, phase := phase } :=
  fun phase _ =>
    ⟨{ on with
      port := flight (.menuLoad .A)
      menus := { on.menus with a := { menuB with load := some { page := 0, origin := .setPage 3 true, phase := phase } } } },
      flight_inFlight _ _ rfl rfl, rfl, rfl⟩

theorem witness_MenuLoadEnds :
    (waitingAll.menu .A).current ≠ none ∧
    waitingAll.penHead .p0 = .A ∧ (waitingAll.pen .p0).state ≠ .disarmed ∧
    (PageLoad.mk 3 (.setPage 7 true) (.count 0)).origin = .setPage 7 true ∧
    (PageLoad.mk 15 (.pageButton none) (.count 0)).origin = .pageButton none ∧
    (PageLoad.mk 15 (.backButton (some ⟨.p1, ⟨0, .back, false, 0, 9, .done, 7⟩⟩)) (.count 0)).origin =
      .backButton (some ⟨.p1, ⟨0, .back, false, 0, 9, .done, 7⟩⟩) := by decide

theorem witness_RecordStaged :
    (pathP0.out = .owned ∧ pathP0.queue.length < 4 ∧ (ReportPath.reset 0).out = .none ∧
      4 ≤ ({ pathP0 with queue := List.replicate 4 (.lost 0) } : ReportPath).queue.length) ∧
    (pathP0.flushing = false ∧ pathP0.fill < 8 ∧ 0 < pathP0.fill ∧ pathP0.queue = [] ∧ pathP0.lostRecord = none ∧
      ({ pathP0 with lostRecord := some 2 } : ReportPath).lostRecord ≠ none ∧
      ({ pathP0 with queue := [.lost 0] } : ReportPath).queue ≠ []) ∧
    (({ pathP0 with out := .stalled } : ReportPath).out = .stalled ∧
      ({ pathP0 with mark := some ⟨.flush, 0⟩ } : ReportPath).flushing = true ∧ ({ pathP0 with fill := 0 } : ReportPath).fill = 0) := by
  decide

theorem witness_PageStateTaken :
    ∀ out ∈ [Output.taking, .turning, .stalled], ∀ mark,
      ∃ s : State, s.inFlight (.pageState .p0) ∧ (s.report .p0).out = out ∧ (s.report .p0).mark = mark ∧
        (s.report .p0).pages = some ⟨0x400, 0x464⟩ ∧ (s.report .p0).turnStep = 3 ∧ (s.report .p0).reread = true :=
  fun out _ mark =>
    ⟨{ on with
      port := flight (.pageState .p0)
      reports := { on.reports with p0 := { pathP0 with out := out, mark := mark, turnStep := 3, reread := true } } },
      flight_inFlight _ _ rfl rfl, rfl, rfl, rfl, rfl, rfl⟩

theorem witness_RecordWordTaken :
    ∀ k ≤ 11, ∀ fill ≤ 7, ∀ mark lost,
      ∃ s : State, s.inFlight (.recordWord .p0 k) ∧ (s.report .p0).pages = some ⟨0x400, 0x464⟩ ∧ (s.report .p0).out = .owned ∧
        (s.report .p0).fill = fill ∧
        (s.report .p0).queue = [.lost 1, .lost 2] ∧ (s.report .p0).mark = mark ∧ (s.report .p0).lostRecord = lost :=
  fun k _ fill _ mark lost =>
    ⟨{ on with
      port := flight (.recordWord .p0 k)
      reports := { on.reports with
        p0 := { pathP0 with fill := fill, queue := [.lost 1, .lost 2], mark := mark, lostRecord := lost } } },
      flight_inFlight _ _ rfl rfl, rfl, rfl, rfl, rfl, rfl, rfl⟩

theorem witness_PageFaultTaken :
    ∀ u ∈ [Purpose.pageState .p0, .recordWord .p0 4, .headerWord .p0 1], ∀ mark,
      ∃ s : State, s.inFlight u ∧ (s.report .p0).mark = mark :=
  fun u _ mark =>
    ⟨{ on with port := flight u, reports := { on.reports with p0 := { pathP0 with mark := mark } } }, flight_inFlight _ _ rfl rfl, rfl⟩

theorem witness_HeaderWordTaken :
    ∀ k ≤ 2, ∀ mark, ∃ s : State, s.inFlight (.headerWord .p0 k) ∧ (s.report .p0).out = .turning ∧ (s.report .p0).turnStep = k ∧
      (s.report .p0).pages = some ⟨0x400, 0x464⟩ ∧ (s.report .p0).mark = mark :=
  fun k _ mark =>
    ⟨{ on with
      port := flight (.headerWord .p0 k)
      reports := { on.reports with p0 := { pathP0 with out := .turning, turnStep := k, mark := mark } } },
      flight_inFlight _ _ rfl rfl, rfl, rfl, rfl, rfl⟩

/-! The invariants: a state that meets each, other than reset, and a step from it. -/

/-- Two strokes in head A's history at step 51,600, and a step pulse at the front of the queue. -/
theorem witness_HistoriesKept :
    (onHead { lines with step := 51600 }).historiesOk ∧
    ∃ t, step { onHead { lines with step := 51600 } with pending := [.stepPulse .A] } = .next t := by
  refine ⟨?_, ⟨_, rfl⟩⟩
  intro h
  cases h <;> refine ⟨by decide, by decide, by decide, by decide, by decide, ?_⟩ <;> intro e he
  · simp only [onHead, lines, State.head, PerHead.get, vector, List.mem_cons, List.not_mem_nil, or_false] at he
    rcases he with rfl | rfl <;> exact ⟨by decide, by decide, by decide, by decide, by decide, by decide, by decide, by decide⟩
  · cases he

theorem witness_WindowsKept : working.windowsOk ∧ ∃ t, step working = .next t := by
  refine ⟨⟨?_, ?_, ?_⟩, ⟨_, rfl⟩⟩
  · intro h n
    cases h <;> cases n <;> first | rfl | exact ⟨by decide +kernel, by decide +kernel⟩
  · intro slot h n addr k e
    cases e
  · intro h; cases h <;> decide

theorem witness_PensKept : working.pensOk ∧ ∃ t, step working = .next t := by
  refine ⟨⟨?_, ?_⟩, ⟨_, rfl⟩⟩
  · intro slot ws fence e
    cases e
  · intro p
    cases p <;>
      refine ⟨⟨⟨by decide, by decide, by decide⟩, by decide⟩, ⟨?_, by decide, by decide⟩, ⟨by decide, ?_⟩, by decide⟩ <;>
      first
      | (intro k hk; cases hk; done)
      | (intro f hf; cases hf; unfold Fence.holds; decide)

/-- Beside what waits there, head B has two words of a one-button page, and pen 3 flushes with its LOST record still to be written. -/
def underWay : State :=
  { waitingAll with
    menus :=
      { waitingAll.menus with
        b := { menuB with load := some { page := 2, origin := .setPage 5 true, phase := .buttons 900 1 }, staging := [1, 2] } }
    reports :=
      { waitingAll.reports with p3 := { pathP0 with fill := 0, mark := some { kind := .flush, count := 0 }, lostRecord := some 2 } } }

theorem witness_MenusKept : underWay.menusOk ∧ ∃ t, step underWay = .next t := by
  refine ⟨?_, ⟨_, rfl⟩⟩
  intro h
  cases h <;> refine ⟨by decide, by decide, ?_, by decide, by decide, ?_, by decide, by decide, by decide, ?_⟩
  all_goals first
    | (intro l hl; cases hl; done)
    | (intro l hl; cases hl; exact ⟨by decide, by (intro w hw; cases hw), by decide, by decide, by decide⟩)
    | (intro c hc; cases hc; decide)
    | (intro b hb
       simp [underWay, waitingAll, working, on, menuB, State.menu, PerHead.get, State.reset, MenuUnit.reset] at hb
       try (rcases hb with rfl | rfl | rfl <;> exact ⟨by decide, by decide⟩))

theorem witness_ReportsKept : underWay.reportsOk ∧ ∃ t, step underWay = .next t := by
  refine ⟨?_, ⟨_, rfl⟩⟩
  intro p
  refine ⟨?_, ?_⟩
  · cases p <;> refine ⟨by decide, by decide, by decide, by decide, by decide, ?_, by decide⟩ <;> intro c hc <;>
      first | (cases hc; done) | exact ⟨rfl, rfl⟩
  · rintro ⟨a, k, h, _⟩
    cases h

/-- Head A waits for slot 5's hold; a frame start is at the front of the queue. -/
def holding : State :=
  { onHead { synced with holdPending := true, waitingSlot := some 5 } with
    engine := { on.engine with outstanding := [5] }, pending := [.frameStart .A 0x1ABC] }

theorem witness_SlotsKept : holding.slotsOk ∧ ∃ t, step holding = .next t := by
  refine ⟨⟨by decide, ?_, by decide, ?_⟩, ⟨_, rfl⟩⟩
  · intro h
    cases h <;> decide
  · intro k hk
    cases hk

theorem witness_PortKept : on.portOk ∧ ∃ t, step { on with pending := [.attention 0] } = .next t :=
  ⟨⟨fun _ => by decide, (by intro h; cases h), by intro h; cases h⟩, ⟨_, rfl⟩⟩

end Sys2Proof.Tests
end

section
/-! PROOF. What a hit is tied to, and where on its stroke it lies (R39 to R46). -/

namespace Sys2Proof.Machine

open Sys2Proof

/-! ## The entry for an effective step (R41) -/

theorem historyAt_eq_none {hist : List Stroke} {e : Nat} (later : ∀ d ∈ hist, e < d.s0) :
    historyAt hist e = none := by
  have nothing_left : hist.filter (fun d => decide (d.s0 ≤ e)) = [] :=
    List.filter_eq_nil_iff.2 fun d hd => by simpa using later d hd
  simp only [historyAt, nothing_left, List.getLast?_nil]

/-- The history's older part is arbitrary: no order of the start steps is assumed of it. -/
theorem historyAt_eq_newest (older : List Stroke) {newer : List Stroke} {st : Stroke} {e : Nat}
    (started : st.s0 ≤ e) (later : ∀ d ∈ newer, e < d.s0) :
    historyAt (older ++ st :: newer) e = some st := by
  have nothing_newer : newer.filter (fun d => decide (d.s0 ≤ e)) = [] :=
    List.filter_eq_nil_iff.2 fun d hd => by simpa using later d hd
  simp [historyAt, started, nothing_newer]

/-! ## The outcomes of the correlation (R39 to R42) -/

theorem correlate_early (x : HeadRx) {delay h : Nat} (saturated : Bool) (hlt : h < delay) :
    correlate x delay h saturated = .error .early := if_pos hlt

theorem correlate_overlong (x : HeadRx) {delay h : Nat} (hle : delay ≤ h) :
    correlate x delay h true = .error .overlong := by
  simp [correlate, Nat.not_lt.2 hle]

theorem correlate_of_historyAt_none {x : HeadRx} {delay h : Nat} (hle : delay ≤ h)
    (none_at : historyAt x.history (h - delay) = none) :
    correlate x delay h false = .error (if x.overwritten then .aged else .gap) := by
  simp [correlate, Nat.not_lt.2 hle, none_at]

theorem correlate_of_historyAt_some {x : HeadRx} {delay h : Nat} {st : Stroke} (hle : delay ≤ h)
    (st_at : historyAt x.history (h - delay) = some st) :
    correlate x delay h false =
      if st.s0 + st.eff ≤ h - delay then .error .gap else .ok (st, h - delay - st.s0) := by
  simp [correlate, Nat.not_lt.2 hle, st_at]

/-! ## The position on a stroke (R45, R46) -/

theorem interpolate_up {a b : Nat} (hab : a ≤ b) (len k : Nat) :
    interpolate a b len k = a + (2 * (b - a) * k + len) / (2 * len) := by
  simp only [interpolate, distance, if_pos hab]

theorem interpolate_down {a b : Nat} (hab : ¬a ≤ b) (len k : Nat) :
    interpolate a b len k = a - (2 * (a - b) * k + len) / (2 * len) := by
  simp only [interpolate, distance, if_neg hab]

theorem interpolate_eq (a b len k : Nat) :
    interpolate a b len k =
      if a ≤ b then a + (2 * (b - a) * k + len) / (2 * len) else a - (2 * (a - b) * k + len) / (2 * len) := by
  split
  case isTrue hab => exact interpolate_up hab len k
  case isFalse hab => exact interpolate_down hab len k

/-- Before the end of a stroke the rounded advance does not pass the whole way: `d * k / len` and a half stay
under `d + 1`. -/
theorem rounded_advance_le (d : Nat) {len k : Nat} (hk : k < len) : (2 * d * k + len) / (2 * len) ≤ d := by
  have part_way : 2 * d * k ≤ 2 * d * len := Nat.mul_le_mul_left _ hk.le
  have one_more : 2 * len * (d + 1) = 2 * d * len + 2 * len := by ring
  have under : 2 * d * k + len < 2 * len * (d + 1) := by omega
  exact Nat.le_of_lt_succ (Nat.div_lt_of_lt_mul under)

theorem interpolate_between (a b : Nat) {len k : Nat} (hk : k < len) :
    min a b ≤ interpolate a b len k ∧ interpolate a b len k ≤ max a b := by
  by_cases hab : a ≤ b
  · have advance := rounded_advance_le (b - a) hk
    rw [interpolate_up hab]
    generalize (2 * (b - a) * k + len) / (2 * len) = q at advance ⊢
    omega
  · have advance := rounded_advance_le (a - b) hk
    rw [interpolate_down hab]
    generalize (2 * (a - b) * k + len) / (2 * len) = q at advance ⊢
    omega

theorem positionOf_of_ne_vector {st : Stroke} (hkind : st.kind ≠ .vector) (k : Nat) :
    positionOf st k = (st.x0, st.y0) := by
  unfold positionOf
  cases hc : st.kind with
  | point => rfl
  | text => rfl
  | vector => exact absurd hc hkind

theorem positionOf_vector {st : Stroke} (hkind : st.kind = .vector) (k : Nat) :
    positionOf st k = (interpolate st.x0 st.x1 st.len k, interpolate st.y0 st.y1 st.len k) := by
  simp only [positionOf, hkind]

/-! ## The obligations -/

/-- Settles O21: a clause for each outcome of `correlate`, where what is known of the history says what `historyAt`
finds in it. -/
theorem correlationOutcome : Obligations.CorrelationOutcome := by
  intro x delay h saturated
  refine ⟨correlate_early x saturated, ?overlong, ?none_started, ?newest_started⟩
  case overlong =>
    rintro hle rfl
    exact correlate_overlong x hle
  case none_started =>
    rintro hle rfl later
    exact correlate_of_historyAt_none hle (historyAt_eq_none later)
  case newest_started =>
    rintro older newer st hle rfl history started later
    exact correlate_of_historyAt_some hle (history ▸ historyAt_eq_newest older started later)

/-- Settles O22: each axis of a VECTOR is interpolated by itself, and its rounded advance stays within the stroke. -/
theorem positionOnStroke : Obligations.PositionOnStroke := by
  intro st k
  refine ⟨fun hkind => positionOf_of_ne_vector hkind k, fun hkind => ?vector⟩
  rw [positionOf_vector hkind]
  refine ⟨by rw [interpolate_eq, interpolate_eq], fun hk => ?between⟩
  obtain ⟨x_above, x_below⟩ := interpolate_between st.x0 st.x1 hk
  obtain ⟨y_above, y_below⟩ := interpolate_between st.y0 st.y1 hk
  exact ⟨x_above, x_below, y_above, y_below⟩

end Sys2Proof.Machine
end

section
/-! PROOF. LOAD CONTEXT: the request, the reading of the block, and the checks of its fields (R55 to R62, R184). -/

namespace Sys2Proof.Machine

open Sys2Proof

/-! ## The end of a live access (R178) -/

theorem State.finishStop_of_not_stopping {s : State} (going : s.regs.stopping = false) : s.finishStop = s := by
  obtain ⟨stopping, -, -⟩ | ⟨-, same⟩ := s.finishStop_cases
  · rw [going] at stopping
    cases stopping
  · exact same

/-- A bus error raises a note and leaves RUN, RUNNING and the waiting start alone; where the requester leaves the
registers alone as well, the access neither begins nor ends a stop. -/
theorem State.accessEnd_of_inFlight {s : State} {u : Purpose} (flying : s.inFlight u) {mine : Purpose → Bool}
    (is_mine : mine u = true) (failed : Bool) {live : Purpose → State → State}
    (keeps : ∀ t, (live u t).regs = t.regs) :
    s.accessEnd mine failed live =
      (live u (if failed then (s.setPort none).note .fault else s.setPort none)).grant := by
  obtain ⟨⟨addr, data, port_eq⟩, going⟩ := flying
  have going_on : (live u (if failed then (s.setPort none).note .fault else s.setPort none)).regs.stopping = false := by
    rw [keeps]
    cases failed <;> exact going
  simp only [State.accessEnd, port_eq, is_mine, if_true, State.endAccess]
  rw [State.finishStop_of_not_stopping going_on]

/-- The end of a TAKEN write without a bus error, for a kind of request whose service leaves the registers alone. -/
theorem State.takenEnd_done {s : State} {k : Option Kind} {slot : SlotNo} {ws : List Word}
    (taking : s.takenInFlight k slot ws) {serve : State → SlotNo → List Word → State}
    (keeps : ∀ t n l, (serve t n l).regs = t.regs) :
    s.takenEnd k .done serve = (serve (s.taken slot) slot ws).grant := by
  obtain ⟨⟨w, kind_eq, flying⟩, work_eq⟩ := taking
  have is_taken : isTaken k (.taken w) = true := decide_eq_true kind_eq
  rw [State.takenEnd, State.accessEnd_of_inFlight flying is_taken]
  · simp only [State.setPort_engine, work_eq, reduceCtorEq, decide_false, Bool.false_eq_true, if_false]
    rfl
  · intro t
    split
    case h_1 n l _ => simp [keeps]
    case h_2 => rfl

/-! ## Head and slot codes (R58, R183) -/

theorem headOf_of_toNat {w : Word} {h : Head} (code : w.toNat = if h = .A then 0 else 1) : headOf w = some h := by
  cases h with
  | A => rw [show w = 0 from BitVec.eq_of_toNat_eq code]; rfl
  | B => rw [show w = 1 from BitVec.eq_of_toNat_eq code]; rfl

theorem slotNameOf_of_toNat {w : Word} {n : SlotName} (code : w.toNat = if n = .A then 0 else 1) :
    slotNameOf w = some n := by
  cases n with
  | A => rw [show w = 0 from BitVec.eq_of_toNat_eq code]; rfl
  | B => rw [show w = 1 from BitVec.eq_of_toNat_eq code]; rfl

theorem word_ne_zero_and_ne_one {w : Word} (past : 1 < w.toNat) : w ≠ 0 ∧ w ≠ 1 := by
  constructor <;> rintro rfl <;> exact absurd past (by decide)

theorem headOf_of_one_lt {w : Word} (past : 1 < w.toNat) : headOf w = none := by
  obtain ⟨not_A, not_B⟩ := word_ne_zero_and_ne_one past
  simp only [headOf, not_A, not_B, if_false]

theorem slotNameOf_of_one_lt {w : Word} (past : 1 < w.toNat) : slotNameOf w = none := by
  obtain ⟨not_A, not_B⟩ := word_ne_zero_and_ne_one past
  simp only [slotNameOf, not_A, not_B, if_false]

/-! ## Values of two words (R180) -/

theorem addrOf_eq (lo hi : Word) : addrOf lo hi = hi.toNat * 65536 + lo.toNat := by
  rw [addrOf, longOf, BitVec.toNat_append, ← Nat.shiftLeft_add_eq_or_of_lt lo.isLt, Nat.shiftLeft_eq]

theorem signedOf_eq (lo hi : Word) :
    signedOf lo hi =
      if addrOf lo hi < 2147483648 then (addrOf lo hi : Int) else (addrOf lo hi : Int) - 4294967296 := by
  have half : 2 * addrOf lo hi < 2 ^ 32 ↔ addrOf lo hi < 2147483648 := by omega
  simp only [signedOf, BitVec.toInt_eq_toNat_cond]
  exact if_congr half rfl rfl

theorem not_inSpace_iff (addr last : Nat) : ¬inSpace addr last = true ↔ 4194303 < addr + last := by
  rw [inSpace, decide_eq_true_iff, Nat.not_le, Config.lastAddress]

/-! ## The request (R58, R59) -/

theorem State.doLoadContext_bad_code {s : State} {slot : SlotNo} {ws : List Word}
    (bad : headOf (arg ws 4) = none ∨ slotNameOf (arg ws 5) = none) :
    s.doLoadContext slot ws = s.reply slot codeBadArgument 0 := by
  unfold State.doLoadContext
  split
  case h_1 head_eq slot_eq => simp [head_eq, slot_eq] at bad
  case h_2 => rfl

theorem State.doLoadContext_named (s : State) (slot : SlotNo) {ws : List Word} {h : Head} {n : SlotName}
    (head_eq : headOf (arg ws 4) = some h) (slot_eq : slotNameOf (arg ws 5) = some n) :
    s.doLoadContext slot ws =
      if 4194303 < addrOf (arg ws 6) (arg ws 7) + 255 then s.reply slot codeBadArgument 0
      else if n = (s.store h).active ∧ ((s.store h).slot n).state = .valid then s.reply slot codeSlotActive 0
      else if (s.store h).switchPending ≠ none ∧ n ≠ (s.store h).active then s.reply slot codeSlotPending 0
      else
        (s.setCtxSlot h n { state := .loading, words := [] }).work
          (.loading slot h n (addrOf (arg ws 6) (arg ws 7)) 0) := by
  simp only [State.doLoadContext, head_eq, slot_eq, not_inSpace_iff, Option.isSome_iff_ne_none]

theorem exec_loadContext_done {s : State} {slot : SlotNo} {ws : List Word}
    (taking : s.takenInFlight (some .loadContext) slot ws) :
    exec (.loadContext .done) s = .next ((s.taken slot).doLoadContext slot ws).grant :=
  congrArg Host.Outcome.next (State.takenEnd_done taking fun t n l => by simp)

/-! ## The words of the block (R59 to R62) -/

theorem exec_contextWordRead_word {s : State} (flying : s.inFlight .contextWord) (w : Word) :
    exec (.contextWordRead (.word w)) s = .next ((s.setPort none).contextWordRead w).grant :=
  congrArg Host.Outcome.next
    (State.accessEnd_of_inFlight flying (decide_eq_true rfl) false fun t => by simp)

theorem exec_contextWordRead_busError {s : State} (flying : s.inFlight .contextWord) :
    exec (.contextWordRead .busError) s = .next ((s.setPort none).note .fault).contextFailed.grant :=
  congrArg Host.Outcome.next
    (State.accessEnd_of_inFlight flying (decide_eq_true rfl) true fun t => by simp)

theorem ctxFirstBad_eq_none {ws : List Word} (good : ∀ c ∈ ctxChecks ws, c.2 = true) : ctxFirstBad ws = none := by
  have none_found : (ctxChecks ws).find? (fun c => !c.2) = none :=
    List.find?_eq_none.2 fun c hc => by simp [good c hc]
  rw [ctxFirstBad, none_found, Option.map_none]

theorem ctxFirstBad_eq_some {ws : List Word} {before behind : List (Nat × Bool)} {o : Nat}
    (checks : ctxChecks ws = before ++ (o, false) :: behind) (good : ∀ c ∈ before, c.2 = true) :
    ctxFirstBad ws = some o := by
  have found : (ctxChecks ws).find? (fun c => !c.2) = some (o, false) :=
    List.find?_eq_some_iff_append.2 ⟨rfl, before, behind, checks, fun c hc => by simp [good c hc]⟩
  rw [ctxFirstBad, found, Option.map_some]

section
variable {s : State} {slot : SlotNo} {h : Head} {n : SlotName} {addr k : Nat}

theorem State.engineWaits_loading (no_results : s.engine.results = [])
    (loading : s.engine.work = .loading slot h n addr k) :
    s.engineWaits = some { purpose := .contextWord, addr := addr + k, data := none, delivery := .live } := by
  simp only [State.engineWaits, no_results, State.workWaits, loading]

theorem State.contextWordRead_more (loading : s.engine.work = .loading slot h n addr k) (more : k < 255) (w : Word) :
    s.contextWordRead w =
      (s.setCtxSlot h n { state := .loading, words := ((s.store h).slot n).words ++ [w] }).work
        (.loading slot h n addr (k + 1)) := by
  have more' : k + 1 < Config.contextWords := Nat.succ_lt_succ more
  simp only [State.contextWordRead, loading, if_pos more']

theorem State.contextWordRead_last_good (loading : s.engine.work = .loading slot h n addr 255) {w : Word}
    (good : ctxFirstBad (((s.store h).slot n).words ++ [w]) = none) :
    s.contextWordRead w =
      (s.setCtxSlot h n { state := .valid, words := ((s.store h).slot n).words ++ [w] }).reply slot codeOK 0 := by
  simp only [State.contextWordRead, loading, good, if_neg (show ¬255 + 1 < Config.contextWords by decide)]

theorem State.contextWordRead_last_bad (loading : s.engine.work = .loading slot h n addr 255) {w : Word} {o : Nat}
    (bad : ctxFirstBad (((s.store h).slot n).words ++ [w]) = some o) :
    s.contextWordRead w = (s.setCtxSlot h n .invalid).reply slot codeBadContext (wordOf o) := by
  simp only [State.contextWordRead, loading, bad, if_neg (show ¬255 + 1 < Config.contextWords by decide)]

theorem State.contextFailed_loading (loading : s.engine.work = .loading slot h n addr k) :
    s.contextFailed = (s.setCtxSlot h n .invalid).reply slot codeBusError (wordOf k) := by
  simp only [State.contextFailed, loading]

end

/-! ## The active context (R8, R57) -/

theorem CtxStore.slot_active (c : CtxStore) : c.slot c.active = if c.active = .A then c.slotA else c.slotB := by
  cases c.active <;> rfl

theorem State.activeCtx_eq (s : State) (h : Head) :
    s.activeCtx h =
      if ((s.store h).slot (s.store h).active).state = .valid then some ((s.store h).slot (s.store h).active).words
      else none := rfl

theorem State.windowLength_eq (s : State) (h : Head) :
    s.windowLength h =
      if ((s.store h).slot (s.store h).active).state = .valid then ctxN ((s.store h).slot (s.store h).active).words
      else 1 := by
  rw [State.windowLength, State.activeCtx_eq]
  by_cases valid : ((s.store h).slot (s.store h).active).state = .valid
  · simp only [if_pos valid]
  · simp only [if_neg valid]

/-! ## The fields of the block (R56, R60, R184) -/

theorem ctxRank_eq (ws : List Word) (cls : Nat) :
    ctxRank ws cls = (ctxWord ws (129 + cls / 4)).toNat / 16 ^ (cls % 4) % 8 := by
  have width : 4 * (cls % 4) + 2 - 4 * (cls % 4) + 1 = 3 := by omega
  rw [ctxRank, bits, width, Nat.pow_mul]
  rfl

theorem bits_from_zero (w : Word) (hi : Nat) : bits w hi 0 = w.toNat % 2 ^ (hi + 1) := by
  rw [bits, Nat.pow_zero, Nat.div_one, Nat.sub_zero]

theorem ctxAvg_of_code_le (ws : List Word) (code : ctxAvgCode ws ≤ 4) :
    [1, 4, 8, 16, 32][ctxAvgCode ws]? = some (ctxAvg ws) := by
  unfold ctxAvg
  interval_cases ctxAvgCode ws <;> rfl

/-! ## The checked fields (R60) -/

/-- R60's test of a field: its value lies in the range, both ends included. -/
def fieldWithin (lo hi v : Nat) : Bool := decide (lo ≤ v) && decide (v ≤ hi)

theorem decide_and_eq_fieldWithin (lo hi v : Nat) : decide (lo ≤ v ∧ v ≤ hi) = fieldWithin lo hi v :=
  Bool.decide_and _ _

theorem decide_le_eq_fieldWithin (hi v : Nat) : decide (v ≤ hi) = fieldWithin 0 hi v := by
  rw [fieldWithin, decide_eq_true v.zero_le, Bool.true_and]

/-- The checks of the view record that starts at word `b` of the block. -/
def viewChecksAt (ws : List Word) (b : Nat) : List (Nat × Bool) :=
  [(b, fieldWithin 0 4095 (ctxWord ws b).toNat), (b + 1, fieldWithin 0 4095 (ctxWord ws (b + 1)).toNat),
   (b + 2, fieldWithin 0 2 ((ctxWord ws (b + 2)).toNat % 256)),
   (b + 12, decide (signedOf (ctxWord ws (b + 12)) (ctxWord ws (b + 13)) ≤
     signedOf (ctxWord ws (b + 14)) (ctxWord ws (b + 15)))),
   (b + 16, decide (signedOf (ctxWord ws (b + 16)) (ctxWord ws (b + 17)) ≤
     signedOf (ctxWord ws (b + 18)) (ctxWord ws (b + 19)))),
   (b + 20, fieldWithin 0 2147483647 (addrOf (ctxWord ws (b + 20)) (ctxWord ws (b + 21)))),
   (b + 22, fieldWithin 0 2147483647 (addrOf (ctxWord ws (b + 22)) (ctxWord ws (b + 23))))]

theorem viewChecks_eq_viewChecksAt (ws : List Word) (v : View) :
    viewChecks ws v = viewChecksAt ws (144 + 24 * v.val) := by
  simp only [viewChecks, viewAxisCode, bits_from_zero, decide_le_eq_fieldWithin]
  rfl

theorem ctxChecks_eq (ws : List Word) :
    ctxChecks ws =
      [(133, fieldWithin 1 16 ((ctxWord ws 133).toNat % 32)),
       (133, fieldWithin 1 15 ((ctxWord ws 133).toNat / 256 % 16)),
       (134, fieldWithin 0 15 ((ctxWord ws 134).toNat % 16)),
       (134, fieldWithin 1 4 ((ctxWord ws 134).toNat / 256 % 8)),
       (135, fieldWithin 0 4 ((ctxWord ws 135).toNat % 8)),
       (135, fieldWithin 1 15 ((ctxWord ws 135).toNat / 256 % 16)),
       (136, fieldWithin 0 255 (ctxWord ws 136).toNat)] ++
      viewChecksAt ws 144 ++ viewChecksAt ws 168 ++ viewChecksAt ws 192 ++ viewChecksAt ws 216 := by
  simp only [ctxChecks, viewChecks_eq_viewChecksAt, ctxN, ctxIdle, ctxAvgCode, bits_from_zero, decide_and_eq_fieldWithin,
    decide_le_eq_fieldWithin]
  rfl

/-! ## The obligation -/

/-- Settles O31: the request's checks, the reading of the block to each of its ends, the active context, and the fields
of the block with their checks. -/
theorem contextLoaded : Obligations.ContextLoaded := by
  refine ⟨?request, ?waits, ?words, ?active, ?fields⟩
  case request =>
    intro slot ws s taking t addr
    rw [exec_loadContext_done taking]
    refine ⟨fun bad_code => ?unnamed, fun h n head_code slot_code => ?named⟩
    case unnamed =>
      rw [State.doLoadContext_bad_code (bad_code.imp headOf_of_one_lt slotNameOf_of_one_lt)]
      rfl
    case named =>
      rw [State.doLoadContext_named _ slot (headOf_of_toNat head_code) (slotNameOf_of_toNat slot_code),
        addrOf_eq]
      rfl
  case waits =>
    intro slot h n addr k s no_results loading
    exact State.engineWaits_loading no_results loading
  case words =>
    intro slot h n addr k w s flying loading t words placed
    have word_ends := exec_contextWordRead_word flying w
    refine ⟨fun more => ?more, ?good, ?bad, ?bus_error⟩
    case more =>
      rw [word_ends, State.contextWordRead_more (s := s.setPort none) loading more]
      rfl
    case good =>
      rintro rfl good
      rw [word_ends, State.contextWordRead_last_good (s := s.setPort none) loading (ctxFirstBad_eq_none good)]
      rfl
    case bad =>
      rintro before o behind rfl checks good
      rw [word_ends, State.contextWordRead_last_bad (s := s.setPort none) loading (ctxFirstBad_eq_some checks good)]
      rfl
    case bus_error =>
      rw [exec_contextWordRead_busError flying, State.contextFailed_loading (s := (s.setPort none).note .fault) loading]
      rfl
  case active =>
    intro h s slot
    have active : (s.store h).slot (s.store h).active = slot := CtxStore.slot_active _
    rw [State.activeCtx_eq, State.windowLength_eq, active]
    exact ⟨rfl, by rw [ctxN, bits_from_zero]; rfl⟩
  case fields =>
    intro ws word
    refine ⟨fun _ => rfl, fun cls _ => ctxRank_eq ws cls, rfl, bits_from_zero _ 3, rfl, fun code => ?average, rfl, rfl,
      ?checks⟩
    case average =>
      have code_eq : ctxAvgCode ws = word 135 % 8 := bits_from_zero _ 2
      rw [← code_eq] at code ⊢
      exact ctxAvg_of_code_le ws code
    case checks =>
      intro unsigned signed within view
      have view_eq : ∀ b, viewChecksAt ws b = view b := by
        intro b
        simp only [viewChecksAt, signedOf_eq, addrOf_eq]
        rfl
      rw [ctxChecks_eq, view_eq, view_eq, view_eq, view_eq]
      rfl

end Sys2Proof.Machine
end

section
/-! PROOF. The pick window: how a DRAWING hit enters the candidate table, and how a decision is made (R52, R72 to R76,
R84 to R89). -/

namespace Sys2Proof.Machine

open Sys2Proof

/-! ## Successive writes to one pen -/

@[simp] theorem State.setPen_setPen (s : State) (p : Pen) (c d : PenChannel) :
    (s.setPen p c).setPen p d = s.setPen p d := by
  simp only [State.setPen, PerPen.set_set]

@[simp] theorem State.count_setPen (s : State) (p : Pen) (c : PenChannel) (f : PenCounters → PenCounters) :
    (s.setPen p c).count p f = s.setPen p { c with counters := f c.counters } := by
  simp only [State.count, State.pen_setPen_self, State.setPen_setPen]

@[simp] theorem State.clearWindow_setPen (s : State) (p : Pen) (c : PenChannel) :
    (s.setPen p c).clearWindow p = s.setPen p { c with window := .opened } := by
  simp only [State.clearWindow, State.pen_setPen_self, State.setPen_setPen]

theorem State.stage_pens (s : State) (p : Pen) (record : Record) : (s.stage p record).pens = s.pens := by simp

theorem State.pen_stage (s : State) (p q : Pen) (record : Record) : (s.stage p record).pen q = s.pen q := by
  rw [State.pen, State.stage_pens, State.pen]

/-! ## The winner (R85) -/

theorem Candidate.beats_iff {ws : List Word} {a b : Candidate} :
    a.beats ws b = true ↔
      ctxRank ws b.cls < ctxRank ws a.cls ∨
      ctxRank ws b.cls = ctxRank ws a.cls ∧ (b.hits < a.hits ∨ b.hits = a.hits ∧ a.arrival < b.arrival) := by
  simp only [Candidate.beats, Bool.or_eq_true, Bool.and_eq_true, decide_eq_true_iff]
  omega

theorem Candidate.beats_asymm {ws : List Word} {a b : Candidate} (wins : a.beats ws b = true) :
    b.beats ws a = false := by
  rw [Candidate.beats_iff] at wins
  rw [Bool.eq_false_iff, Ne, Candidate.beats_iff]
  omega

theorem winnerOf_cons_of_none {ws : List Word} {c : Candidate} {cs : List Candidate} (rest : winnerOf ws cs = none) :
    winnerOf ws (c :: cs) = some c := by
  simp only [winnerOf, rest]

theorem winnerOf_cons_of_some {ws : List Word} {c d : Candidate} {cs : List Candidate}
    (rest : winnerOf ws cs = some d) : winnerOf ws (c :: cs) = some (if d.beats ws c then d else c) := by
  simp only [winnerOf, rest]
  split <;> rfl

theorem winnerOf_mem {ws : List Word} {l : List Candidate} {d : Candidate} (won : winnerOf ws l = some d) : d ∈ l := by
  induction l generalizing d with
  | nil => cases won
  | cons c cs ih =>
    cases rest : winnerOf ws cs with
    | none =>
      rw [winnerOf_cons_of_none rest, Option.some_inj] at won
      exact won ▸ List.mem_cons_self
    | some b =>
      rw [winnerOf_cons_of_some rest, Option.some_inj] at won
      split at won
      case isTrue => exact won ▸ List.mem_cons_of_mem c (ih rest)
      case isFalse => exact won ▸ List.mem_cons_self

/-- `e` may stand in the list more than once. -/
theorem winnerOf_eq_some_of_beats {ws : List Word} {e : Candidate} {l : List Candidate} (mem : e ∈ l)
    (best : ∀ d ∈ l, d ≠ e → e.beats ws d = true) : winnerOf ws l = some e := by
  induction l with
  | nil => cases mem
  | cons c cs ih =>
    by_cases later : e ∈ cs
    · have rest := ih later fun d hd => best d (List.mem_cons_of_mem c hd)
      by_cases same : c = e
      · rw [winnerOf_cons_of_some rest, same, ite_self]
      · rw [winnerOf_cons_of_some rest, if_pos (best c List.mem_cons_self same)]
    · obtain rfl : e = c := (List.mem_cons.1 mem).resolve_right later
      cases rest : winnerOf ws cs with
      | none => exact winnerOf_cons_of_none rest
      | some d =>
        have d_mem := winnerOf_mem rest
        have beaten := best d (List.mem_cons_of_mem e d_mem) fun same => later (same ▸ d_mem)
        simp [winnerOf_cons_of_some rest, Candidate.beats_asymm beaten]

/-! ## What a decision does (R84, R88, R89) -/

section
variable {s : State} {p : Pen} {ws : List Word}

/-- The pen after a decision without a winner: EMPTY is counted, and the window opens anew. -/
def PenChannel.emptyDecided (c : PenChannel) : PenChannel :=
  { c with window := .opened, counters := c.counters.incEmpty }

theorem State.count_incEmpty_clearWindow (s : State) (p : Pen) :
    (s.count p PenCounters.incEmpty).clearWindow p = s.setPen p (s.pen p).emptyDecided :=
  State.clearWindow_setPen s p _

theorem State.decision_of_no_context (none_active : s.activeCtx (s.penHead p) = none) (reason : CloseReason)
    (frame : Long) : s.decision p reason frame = s.setPen p (s.pen p).emptyDecided := by
  rw [State.penHead] at none_active
  simp only [State.decision, none_active, Option.bind_none, State.count_incEmpty_clearWindow]

theorem State.decision_of_none_eligible (active : s.activeCtx (s.penHead p) = some ws)
    (few_hits : ∀ e ∈ (s.pen p).window.table, e.hits < ctxMinHits ws) (reason : CloseReason) (frame : Long) :
    s.decision p reason frame = s.setPen p (s.pen p).emptyDecided := by
  have none_eligible : eligibleOf (some ws) (s.pen p).window = [] :=
    List.filter_eq_nil_iff.2 fun e he => by simpa using few_hits e he
  rw [State.penHead] at active
  simp only [State.decision, active, none_eligible, Option.bind_some, winnerOf, State.count_incEmpty_clearWindow]

theorem State.decision_of_winner {e : Candidate} (active : s.activeCtx (s.penHead p) = some ws)
    (won : winnerOf ws (eligibleOf (some ws) (s.pen p).window) = some e) (reason : CloseReason) (frame : Long) :
    let record := pickRecordOf ws (s.pen p).window (eligibleOf (some ws) (s.pen p).window) e reason frame
    let t := (s.stage p (.pick record)).setPen p { s.pen p with window := .opened }
    s.decision p reason frame = if (s.pen p).opts.single then t.disarm p else t := by
  rw [State.penHead] at active
  simp only [State.decision, active, Option.bind_some, won, Option.getD_some, State.clearWindow, State.pen_stage]

end

theorem isTie_eq_countP (ws : List Word) (eligible : List Candidate) (winner : Candidate) :
    isTie ws eligible winner =
      decide (2 ≤ eligible.countP fun d => decide (ctxRank ws d.cls = ctxRank ws winner.cls)) := by
  rw [isTie, List.countP_eq_length_filter]

/-! ## A matched hit is delivered (R20 to R23, R38, R47) -/

theorem deadTimeDrops_eq_false {mark : Option (Long × Nat)} {f : Long} {h : Nat}
    (past : ∀ k, mark = some (f, k) → k + 8 ≤ h) : deadTimeDrops mark f h = false := by
  cases mark with
  | none => rfl
  | some m =>
    obtain ⟨g, k⟩ := m
    by_cases same : g = f
    · have late : ¬h < k + Config.deadTime := Nat.not_lt.2 (past k (by rw [same]))
      simp [deadTimeDrops, late]
    · simp [deadTimeDrops, same]

section
variable {s : State} {p : Pen} {ws : List Word}

theorem State.pulse_of_hitTaken (taken : s.hitTaken p) :
    s.pulse p =
      (s.setPen p (s.penAfterHit p)).takeHit p (s.head (s.penHead p)).step (s.head (s.penHead p)).saturated
        (s.head (s.penHead p)).frame := by
  obtain ⟨not_resetting, past⟩ := taken
  have not_dropped := deadTimeDrops_eq_false past
  rw [State.penHead] at not_dropped
  simp only [State.pulse, not_resetting, not_dropped, Bool.false_eq_true, if_false, State.count_setPen]
  rfl

theorem State.takeHit_of_hitCorrelated (hit : s.hitCorrelated p ws) (h : Nat) (saturated : Bool) (frame : Long) :
    (s.setPen p (s.penAfterHit p)).takeHit p h saturated frame =
      (s.setPen p (s.penAfterHit p)).armedHit p ws h saturated frame := by
  obtain ⟨-, armed, synced, not_held, active⟩ := hit
  have after_state : (s.penAfterHit p).state = .armed := armed
  have after_active : (s.setPen p (s.penAfterHit p)).activeCtx (s.penAfterHit p).opts.head = some ws := active
  have after_synced : (s.head (s.penAfterHit p).opts.head).state = .synced := synced
  have after_not_held : (s.head (s.penAfterHit p).opts.head).hold = false := not_held
  simp [State.takeHit, after_state, after_active, after_synced, after_not_held]

/-- Where a matched hit goes: it is classified as the pen stood before the pulse, and delivered once HITS and the dead-time
mark are written. -/
theorem exec_penPulse_of_correlated (hit : s.hitCorrelated p ws) {st : Stroke} {k : Nat}
    (matched : s.correlated p = .ok (st, k)) :
    exec (.penPulse p) s =
      .next
        (State.grant
          ((s.setPen p (s.penAfterHit p)).deliverHit
            (s.classify p ws (s.head (s.penHead p)).step (s.head (s.penHead p)).frame st k))) := by
  have pulsed := State.pulse_of_hitTaken hit.1
  rw [State.takeHit_of_hitCorrelated hit, State.armedHit, State.pen_setPen_self, State.head_setPen] at pulsed
  have matched' : correlate (s.head (s.penAfterHit p).opts.head) (s.penAfterHit p).delay (s.head (s.penHead p)).step
      (s.head (s.penHead p)).saturated = .ok (st, k) := matched
  have classified (h : Nat) (frame : Long) :
      (s.setPen p (s.penAfterHit p)).classify p ws h frame st k = s.classify p ws h frame st k := by
    simp only [State.classify, State.penHead, State.pen_setPen_self, State.store_setPen]
    rfl
  simp only [matched', classified] at pulsed
  exact congrArg (fun t : State => Host.Outcome.next t.grant) pulsed

end

theorem categoryOf_drawing {tag cls : Nat} (drawn : tag ≤ 1983) (plain : cls ≤ 13) (pen : Nat) :
    categoryOf tag cls pen .pick = .drawing := by
  have not_menu : cls ≠ 15 := by omega
  have not_arm : cls ≠ 14 := by omega
  simp only [categoryOf, drawn, not_menu, not_arm, if_true, if_false]

theorem State.deliverHit_drawing (s : State) {t : ClassifiedHit} (drawing : t.cat = .drawing) :
    s.deliverHit t = s.drawingHit t := by
  simp only [State.deliverHit, drawing]

/-! ## A hit at the candidate table (R74, R75) -/

theorem Candidate.matchesHit_iff {t : ClassifiedHit} {c : Candidate} :
    c.matchesHit t = true ↔ c.tag = t.tag ∧ c.view = t.view := by
  simp only [Candidate.matchesHit, Bool.and_eq_true, beq_iff_eq]

/-- No entry of the list has the hit's key (R73). -/
def ClassifiedHit.AbsentFrom (t : ClassifiedHit) (l : List Candidate) : Prop :=
  ∀ d ∈ l, ¬(d.tag = t.tag ∧ d.view = t.view)

section
variable {w : WindowState} {t : ClassifiedHit}

theorem ClassifiedHit.AbsentFrom.any_eq_false {l : List Candidate} (absent : t.AbsentFrom l) :
    l.any (Candidate.matchesHit t) = false :=
  List.any_eq_false.2 fun d hd => mt Candidate.matchesHit_iff.1 (absent d hd)

theorem ClassifiedHit.AbsentFrom.map_add {l : List Candidate} (absent : t.AbsentFrom l) :
    l.map (fun c => if c.matchesHit t then c.add t else c) = l :=
  (List.map_congr_left fun d hd => if_neg (mt Candidate.matchesHit_iff.1 (absent d hd))).trans (List.map_id' l)

theorem WindowState.enter_of_mem {before behind : List Candidate} {e : Candidate}
    (table : w.table = before ++ e :: behind) (own : e.tag = t.tag ∧ e.view = t.view)
    (others : t.AbsentFrom (before ++ behind)) :
    w.enter t = some { w with table := before ++ e.add t :: behind, idle := 0 } := by
  have matching : e.matchesHit t = true := Candidate.matchesHit_iff.2 own
  have before_kept : t.AbsentFrom before := fun d hd => others d (List.mem_append_left _ hd)
  have behind_kept : t.AbsentFrom behind := fun d hd => others d (List.mem_append_right _ hd)
  simp [WindowState.enter, table, matching, before_kept.map_add, behind_kept.map_add]

theorem WindowState.enter_of_absent (absent : t.AbsentFrom w.table) :
    w.enter t =
      if w.table.length < 8 then
        some
          { w with
            table := w.table ++ [Candidate.new t w.nextArrival], idle := 0, nextArrival := w.nextArrival + 1 }
      else none := by
  simp only [WindowState.enter, absent.any_eq_false, Bool.false_eq_true, if_false]
  rfl

/-! ## A DRAWING hit at its pen (R74, R75) -/

variable {s : State} {c : PenChannel}

theorem State.drawingHit_filtered (stopped : drawingFiltered c t = true) :
    (s.setPen t.pen c).drawingHit t = s.setPen t.pen { c with counters := c.counters.incFiltered } := by
  simp only [State.drawingHit, State.pen_setPen_self, stopped, if_true, State.count_setPen]

theorem State.drawingHit_entered (passed : drawingFiltered c t = false) (entered : c.window.enter t = some w) :
    (s.setPen t.pen c).drawingHit t = s.setPen t.pen { c with window := w } := by
  simp only [State.drawingHit, State.pen_setPen_self, passed, Bool.false_eq_true, if_false, entered,
    State.setPen_setPen]

theorem State.drawingHit_crowded (passed : drawingFiltered c t = false) (full : c.window.enter t = none) :
    (s.setPen t.pen c).drawingHit t =
      s.setPen t.pen
        { c with window := { c.window with crowded := true }, counters := c.counters.incCrowded } := by
  simp only [State.drawingHit, State.pen_setPen_self, passed, Bool.false_eq_true, if_false, full,
    State.setPen_setPen, State.count_setPen]

end

/-! ## The obligations -/

/-- Settles O18: the winner beats every other eligible entry, so that `winnerOf` ends with it wherever it stands in the
table. -/
theorem windowDecided : Obligations.WindowDecided := by
  intro p s reason frame c fresh empty
  refine ⟨fun none_active => State.decision_of_no_context none_active reason frame, fun ws active => ⟨?none, ?winner⟩⟩
  case none =>
    intro few_hits
    exact State.decision_of_none_eligible active few_hits reason frame
  case winner =>
    intro e e_mem enough best eligible x y record t
    have won : winnerOf ws (eligibleOf (some ws) c.window) = some e := by
      refine winnerOf_eq_some_of_beats (List.mem_filter.2 ⟨e_mem, decide_eq_true enough⟩) fun d hd other => ?_
      obtain ⟨d_mem, d_enough⟩ := List.mem_filter.1 hd
      exact Candidate.beats_iff.2 (best d d_mem (of_decide_eq_true d_enough) other)
    have record_eq : .pick (pickRecordOf ws c.window (eligibleOf (some ws) c.window) e reason frame) = record := by
      rw [pickRecordOf, isTie_eq_countP]
      rfl
    have t_eq : (s.stage p record).setPen p { c with window := .opened } = t := by
      rw [State.setPen, State.stage_pens]
      rfl
    rw [State.decision_of_winner active won, record_eq, t_eq]

/-- Settles O24: the pulse becomes one classified hit of category DRAWING, which the filters stop or the table takes. -/
theorem drawingHitTaken : Obligations.DrawingHitTaken := by
  intro p s ws st k hit matched pick drawn plain c frame pos w filtered result
  let t := s.classify p ws (s.head (s.penHead p)).step frame st k
  have drawing : t.cat = .drawing :=
    (congrArg (categoryOf st.tag st.cls (penNumber p)) pick).trans (categoryOf_drawing drawn plain _)
  have result_of {d : PenChannel} (taken : (s.setPen p c).drawingHit t = s.setPen p d) : result d := by
    refine (exec_penPulse_of_correlated hit matched).trans ?_
    rw [State.deliverHit_drawing _ drawing, taken]
    rfl
  refine ⟨fun stopped => result_of (State.drawingHit_filtered (t := t) stopped), fun passed => ⟨?added, ?made, ?crowded⟩⟩
  case added =>
    intro before behind e table tag_eq view_eq others
    exact result_of (State.drawingHit_entered (t := t) passed (WindowState.enter_of_mem table ⟨tag_eq, view_eq⟩ others))
  case made =>
    intro absent room
    exact result_of
      (State.drawingHit_entered (t := t) passed ((WindowState.enter_of_absent (t := t) absent).trans (if_pos room)))
  case crowded =>
    intro absent full
    exact result_of
      (State.drawingHit_crowded (t := t) passed
        ((WindowState.enter_of_absent (t := t) absent).trans (if_neg (Nat.not_lt.2 full))))

end Sys2Proof.Machine
end

section
/-! PROOF. The conversion from screen to loft: the stages of one axis, and the fields of a view record
(R96 to R102, R184). -/

namespace Sys2Proof.Machine

open Sys2Proof

/-! ## The nearest multiple, a half rounded up (R99, R101) -/

theorem nearest_multiple_bounds (n : Nat) {unit : Nat} (pos : 0 < unit) :
    2 * ((2 * n + unit) / (2 * unit) * unit) ≤ 2 * n + unit ∧
    2 * n < 2 * ((2 * n + unit) / (2 * unit) * unit) + unit := by
  have div_le := Nat.div_mul_le_self (2 * n + unit) (2 * unit)
  have lt_succ := Nat.lt_div_mul_add (a := 2 * n + unit) (b := 2 * unit) (by omega)
  rw [Nat.mul_left_comm] at div_le lt_succ
  omega

/-! ## A magnitude with the sign of another value -/

@[simp] theorem natAbs_withSign (t : Int) (m : Nat) : (withSign t m).natAbs = m := by
  unfold withSign
  split
  case isTrue => exact Int.natAbs_natCast m
  case isFalse => rw [Int.natAbs_neg, Int.natAbs_natCast]

theorem withSign_mul_self_nonneg (t : Int) (m : Nat) : 0 ≤ withSign t m * t := by
  unfold withSign
  split
  case isTrue nonneg => exact Int.mul_nonneg (Int.natCast_nonneg m) nonneg
  case isFalse neg =>
    exact Int.mul_nonneg_of_nonpos_of_nonpos (Int.neg_nonpos_of_nonneg (Int.natCast_nonneg m)) (Int.not_le.1 neg).le

theorem withSign_mul (t : Int) (q unit : Nat) : withSign t (q * unit) = withSign t q * unit := by
  unfold withSign
  split
  case isTrue => exact Int.natCast_mul q unit
  case isFalse => rw [Int.natCast_mul, Int.neg_mul]

/-- With equal signs the distance of two values is the distance of their magnitudes. -/
theorem natAbs_withSign_sub (t : Int) (m : Nat) : (withSign t m - t).natAbs = ((m : Int) - t.natAbs).natAbs := by
  unfold withSign
  split
  case isTrue => omega
  case isFalse => omega

/-! ## The stages of one axis (R98 to R102) -/

theorem scaleStage_eq (a : AxisFields) (d : Int) :
    scaleStage a d = withSign d ((2 * (d.natAbs * a.g) + 65536) / (2 * 65536)) := by
  rw [scaleStage, Nat.mul_assoc]

theorem scaleStage_rounded (a : AxisFields) (d : Int) :
    2 * ((scaleStage a d).natAbs * 65536) ≤ 2 * d.natAbs * a.g + 65536 ∧
    2 * d.natAbs * a.g < 2 * ((scaleStage a d).natAbs * 65536) + 65536 ∧ 0 ≤ scaleStage a d * d := by
  obtain ⟨half_above, half_below⟩ := nearest_multiple_bounds (d.natAbs * a.g) (unit := 65536) (by decide)
  rw [scaleStage_eq, natAbs_withSign, Nat.mul_assoc 2]
  exact ⟨half_above, half_below, withSign_mul_self_nonneg _ _⟩

theorem gridStage_of_grid_zero {a : AxisFields} (off : a.grid = 0) (t : Int) : gridStage a t = t := if_pos off

theorem gridStage_of_grid_ne_zero {a : AxisFields} (on : a.grid ≠ 0) (t : Int) :
    gridStage a t = withSign t ((2 * t.natAbs + a.grid) / (2 * a.grid) * a.grid) := if_neg on

theorem gridStage_snapped {a : AxisFields} (on : a.grid ≠ 0) (t : Int) :
    (∃ n : Int, gridStage a t = n * a.grid) ∧ 2 * (gridStage a t - t).natAbs ≤ a.grid ∧
    (2 * (gridStage a t - t).natAbs = a.grid → t.natAbs < (gridStage a t).natAbs) ∧ 0 ≤ gridStage a t * t := by
  have bounds := nearest_multiple_bounds t.natAbs (Nat.pos_of_ne_zero on)
  rw [gridStage_of_grid_ne_zero on, natAbs_withSign_sub, natAbs_withSign]
  refine ⟨⟨_, withSign_mul t _ a.grid⟩, ?within_half, ?half_away, withSign_mul_self_nonneg t _⟩
  case within_half => omega
  case half_away => omega

theorem clampStage_eq {a : AxisFields} (ordered : a.min ≤ a.max) (t : Int) :
    clampStage a t = max a.min (min a.max t) := by
  unfold clampStage
  split
  case isTrue => omega
  case isFalse => omega

theorem convertAxis_eq {a : AxisFields} (ordered : a.min ≤ a.max) (pos : Nat) :
    let t := originStage a (scaleStage a ((pos : Int) - a.s0))
    let g := gridStage a t
    convertAxis a pos = (max a.min (min a.max g), decide (g < a.min ∨ a.max < g), decide (g ≠ t)) := by
  intro t g
  rw [← clampStage_eq ordered]
  rfl

theorem convertAxis_within {a : AxisFields} (ordered : a.min ≤ a.max) (pos : Nat) :
    a.min ≤ (convertAxis a pos).1 ∧ (convertAxis a pos).1 ≤ a.max := by
  rw [convertAxis_eq ordered]
  exact ⟨le_max_left _ _, max_le ordered (min_le_left _ _)⟩

/-! ## The axis pair of a view record (R97, R184) -/

theorem viewAxisCode_eq (ws : List Word) (v : View) : viewAxisCode ws v = (viewWord ws v 2).toNat % 256 :=
  bits_from_zero _ 7

theorem viewAxes_eq (ws : List Word) (v : View) :
    viewAxes ws v = if viewAxisCode ws v = 0 then .xy else if viewAxisCode ws v = 1 then .xz else .yz := by
  unfold viewAxes
  split
  case h_1 xy => rw [xy]; rfl
  case h_2 xz => rw [xz]; rfl
  case h_3 not_xy not_xz => rw [if_neg not_xy, if_neg not_xz]

/-! ## The obligation -/

/-- Settles O23: one axis stage by stage, then the fields that a view record gives to each of its two axes. -/
theorem axisConverted : Obligations.AxisConverted := by
  refine ⟨?axis, ?position⟩
  case axis =>
    intro a pos ordered d p t g
    exact ⟨scaleStage_rounded a d, fun off => gridStage_of_grid_zero off t, fun on => gridStage_snapped on t,
      convertAxis_eq ordered pos, convertAxis_within ordered pos⟩
  case position =>
    intro ws v x y word unsigned signed first second _
    have first_eq : viewFirst ws v = first := by
      simp only [viewFirst, signedOf_eq, addrOf_eq]
      rfl
    have second_eq : viewSecond ws v = second := by
      simp only [viewSecond, signedOf_eq, addrOf_eq]
      rfl
    rw [convert, viewAxes_eq, viewAxisCode_eq, first_eq, second_eq]
    rfl

end Sys2Proof.Machine
end

section
/-! PROOF. A confirmation of a light button: the button states, the dirty set, and what the menu unit and the pen become
(R118 to R124). -/

namespace Sys2Proof.Machine

open Sys2Proof

/-! ## The dirty set (R119, R120) -/

theorem mem_insertDirty {i j : Nat} {dirty : List Nat} : j ∈ insertDirty i dirty ↔ j ∈ dirty ∨ j = i := by
  induction dirty with
  | nil => simp [insertDirty]
  | cons k ks ih =>
    rw [insertDirty]
    split
    case isTrue => simp only [List.mem_cons, or_comm]
    case isFalse =>
      split
      case isTrue same => simpa [same] using Or.inl
      case isFalse => simp only [List.mem_cons, ih, or_assoc]

theorem mem_foldl_insertDirty {j : Nat} {joining dirty : List Nat} :
    j ∈ joining.foldl (fun d i => insertDirty i d) dirty ↔ j ∈ dirty ∨ j ∈ joining := by
  induction joining generalizing dirty with
  | nil => simp
  | cons i is ih => simp only [List.foldl_cons, ih, mem_insertDirty, List.mem_cons, or_assoc]

theorem mem_changedStates {k i : Nat} {bs cs : List Button} :
    i ∈ changedStates k bs cs ↔
      ∃ j d e, i = k + j ∧ bs[j]? = some d ∧ cs[j]? = some e ∧ d.state ≠ e.state := by
  induction bs generalizing k cs with
  | nil => simp [changedStates]
  | cons b bs ih =>
    cases cs with
    | nil => simp [changedStates]
    | cons c cs =>
      have split_first :
          i ∈ changedStates k (b :: bs) (c :: cs) ↔
            (i = k ∧ b.state ≠ c.state) ∨ i ∈ changedStates (k + 1) bs cs := by
        rw [changedStates]
        split
        case isTrue same => simp [same]
        case isFalse differ => simp [differ]
      rw [split_first, ih]
      constructor
      · rintro (⟨rfl, differ⟩ | ⟨j, d, e, rfl, at_bs, at_cs, differ⟩)
        · exact ⟨0, b, c, rfl, rfl, rfl, differ⟩
        · exact ⟨j + 1, d, e, by omega, at_bs, at_cs, differ⟩
      · rintro ⟨j, d, e, rfl, at_bs, at_cs, differ⟩
        cases j with
        | zero =>
          obtain rfl : b = d := Option.some.inj at_bs
          obtain rfl : c = e := Option.some.inj at_cs
          exact .inl ⟨rfl, differ⟩
        | succ j => exact .inr ⟨j, d, e, by omega, at_bs, at_cs, differ⟩

/-! ## A table around one of its buttons -/

/-- The buttons of a table around a replaced one, each changed by `f`, stand where they stood. -/
theorem getElem?_around {α : Type} (f : α → α) (before behind : List α) (x y : α) {i : Nat} (other : i ≠ before.length) :
    (before.map f ++ y :: behind.map f)[i]? = (before ++ x :: behind)[i]?.map f := by
  rcases Nat.lt_or_gt_of_ne other with lt | gt
  · rw [List.getElem?_append_left (by simpa using lt), List.getElem?_append_left lt, List.getElem?_map]
  · obtain ⟨n, rfl⟩ := Nat.exists_eq_add_of_lt gt
    simp [List.getElem?_append, Nat.add_assoc]

section
variable {m : MenuUnit} {before behind : List Button} {btn : Button}

theorem MenuUnit.stateOf_of_table {b : Nat} (table : m.table = before ++ btn :: behind) (index : before.length = b) :
    m.stateOf b = btn.state := by
  simp [MenuUnit.stateOf, table, ← index]

theorem MenuUnit.pageNumber_of_current {cur : CurrentPage} (current : m.current = some cur) :
    m.pageNumber = cur.number := by
  rw [MenuUnit.pageNumber, current]

/-- The dirty set once button `btn` has become `new` and every other button has changed by `f`. -/
theorem MenuUnit.mem_retable_dirty (table : m.table = before ++ btn :: behind) (f : Button → Button) (new : Button)
    (i : Nat) :
    i ∈ (m.retable (before.map f ++ new :: behind.map f)).dirty ↔
      i ∈ m.dirty ∨ (i = before.length ∧ btn.state ≠ new.state) ∨
        i ≠ before.length ∧ ∃ d, m.table[i]? = some d ∧ d.state ≠ (f d).state := by
  rw [MenuUnit.retable, mem_foldl_insertDirty, mem_changedStates, table]
  by_cases here : i = before.length
  · simp [here]
  · have kept_place := getElem?_around f before behind btn new here
    cases at_i : (before ++ btn :: behind)[i]? with
    | none => simp [here, at_i]
    | some d => simp [here, kept_place, at_i]

end

/-! ## The new states (R119, R120) -/

theorem toggleState_of_lt {b k : Nat} (past : b < k) (table : List Button) : toggleState b k table = table := by
  induction table generalizing k with
  | nil => rfl
  | cons c cs ih => rw [toggleState, if_neg (by omega), ih (by omega)]

theorem toggleState_around (k : Nat) (before behind : List Button) (btn : Button) :
    toggleState (k + before.length) k (before ++ btn :: behind) =
      before ++ { btn with state := !btn.state } :: behind := by
  induction before generalizing k with
  | nil => simp [toggleState, toggleState_of_lt]
  | cons c cs ih =>
    have moved : k + (c :: cs).length = k + 1 + cs.length := by rw [List.length_cons]; omega
    rw [moved, List.cons_append, toggleState, if_neg (by omega), ih (k + 1), List.cons_append]

/-- A button that another one of group `g` excludes: in the group, its state becomes 0 (R120). -/
def Button.excluded (g : Nat) (d : Button) : Button :=
  if d.kind = .choice ∧ d.group = g then { d with state := false } else d

theorem Button.state_ne_excluded_iff {g : Nat} {d : Button} :
    d.state ≠ (d.excluded g).state ↔ d.kind = .choice ∧ d.group = g ∧ d.state = true := by
  unfold Button.excluded
  split
  case isTrue member => simp [member]
  case isFalse outside => simpa using fun kind group => absurd ⟨kind, group⟩ outside

theorem chooseStates_of_lt {b k : Nat} (past : b < k) (g : Nat) (table : List Button) :
    chooseStates b g k table = table.map (Button.excluded g) := by
  induction table generalizing k with
  | nil => rfl
  | cons c cs ih => rw [chooseStates, if_neg (by omega), ih (by omega), List.map_cons, Button.excluded]

theorem chooseStates_around (g k : Nat) (before behind : List Button) (btn : Button) :
    chooseStates (k + before.length) g k (before ++ btn :: behind) =
      before.map (Button.excluded g) ++ { btn with state := true } :: behind.map (Button.excluded g) := by
  induction before generalizing k with
  | nil => simp [chooseStates, chooseStates_of_lt]
  | cons c cs ih =>
    have moved : k + (c :: cs).length = k + 1 + cs.length := by rw [List.length_cons]; omega
    rw [moved, List.cons_append, chooseStates, if_neg (by omega), ih (k + 1), List.map_cons, List.cons_append,
      Button.excluded]

/-! ## The menu unit by button kind (R119 to R123) -/

section
variable {m : MenuUnit} {p : Pen} {b : Nat} {btn : Button} {frame : Long}

theorem MenuUnit.confirmed_momentary (kind : btn.kind = .momentary) :
    m.confirmed p b btn frame = (m, some .done) := by
  simp only [MenuUnit.confirmed, kind]

theorem MenuUnit.confirmed_escape (kind : btn.kind = .escape) : m.confirmed p b btn frame = (m, some .done) := by
  simp only [MenuUnit.confirmed, kind]

theorem MenuUnit.confirmed_toggle (kind : btn.kind = .toggle) :
    m.confirmed p b btn frame = (m.retable (toggleState b 0 m.table), some .done) := by
  simp only [MenuUnit.confirmed, kind]

theorem MenuUnit.confirmed_choice (kind : btn.kind = .choice) :
    m.confirmed p b btn frame = (m.retable (chooseStates b btn.group 0 m.table), some .done) := by
  simp only [MenuUnit.confirmed, kind]

theorem MenuUnit.confirmed_page_of_room (kind : btn.kind = .page) (room : m.stack.length < 4) :
    m.confirmed p b btn frame =
      (({ m with stack := m.pageNumber :: m.stack } : MenuUnit).startLoad btn.target
        (.pageButton (some { pen := p, record := menuRecordOf m b btn .done frame })), none) := by
  simp only [MenuUnit.confirmed, kind, if_neg (show ¬Config.stackDepth ≤ m.stack.length from Nat.not_le.2 room)]

theorem MenuUnit.confirmed_page_of_full (kind : btn.kind = .page) (full : ¬m.stack.length < 4) :
    m.confirmed p b btn frame = (m, some .stackFull) := by
  simp only [MenuUnit.confirmed, kind, if_pos (show Config.stackDepth ≤ m.stack.length from Nat.not_lt.1 full)]

theorem MenuUnit.confirmed_back_of_nil (kind : btn.kind = .back) (empty : m.stack = []) :
    m.confirmed p b btn frame = (m, some .stackEmpty) := by
  simp only [MenuUnit.confirmed, kind, empty]

theorem MenuUnit.confirmed_back_of_cons (kind : btn.kind = .back) {top : Nat} {rest : List Nat}
    (stacked : m.stack = top :: rest) :
    m.confirmed p b btn frame =
      (({ m with stack := rest } : MenuUnit).startLoad top
        (.backButton (some { pen := p, record := menuRecordOf m b btn .done frame })), none) := by
  simp only [MenuUnit.confirmed, kind, stacked]

/-- The MENU record, by the state that the confirmed button has in the table and the current page (R124). -/
theorem menuRecordOf_eq {cur : CurrentPage} {st : Bool} (current : m.current = some cur) (state : m.stateOf b = st)
    (status : MenuStatus) :
    menuRecordOf m b btn status frame =
      { index := b, kind := btn.kind, state := st, page := cur.number, action := btn.action, status := status,
        frame := frame } := by
  rw [menuRecordOf, state, MenuUnit.pageNumber_of_current current]

end

/-! ## The whole confirmation (R118, R123, R124) -/

/-- The pen after it has confirmed a button of the given kind: its window opens anew, and an ESCAPE ends the fix of a TRACK
pen (R118, R123). -/
def PenChannel.confirmed (c : PenChannel) (kind : ButtonKind) : PenChannel :=
  if kind = .escape ∧ c.opts.mode = .track then { c with window := .opened, track := c.track.escape }
  else { c with window := .opened }

theorem PenChannel.confirmed_of_ne_escape (c : PenChannel) {kind : ButtonKind} (other : kind ≠ .escape) :
    c.confirmed kind = { c with window := .opened } :=
  if_neg fun escape => other escape.1

section
variable {s : State} {p : Pen} {b : Nat} {btn : Button} {frame : Long} {n : MenuUnit}

theorem State.clearWindow_setMenu_escape (s : State) (p : Pen) (h : Head) (n : MenuUnit) (kind : ButtonKind) :
    let t := (s.clearWindow p).setMenu h n
    (if kind = .escape ∧ (t.pen p).opts.mode = .track then
        t.setPen p { t.pen p with track := (t.pen p).track.escape }
      else t) = (s.setMenu h n).setPen p ((s.pen p).confirmed kind) := by
  intro t
  have t_eq : t = (s.setMenu h n).setPen p { s.pen p with window := .opened } := rfl
  rw [t_eq, State.pen_setPen_self, PenChannel.confirmed]
  split
  case isTrue => rw [State.setPen_setPen]
  case isFalse => rfl

theorem State.confirm_of_record {status : MenuStatus}
    (at_unit : (s.menu (s.penHead p)).confirmed p b btn frame = (n, some status)) :
    s.confirm p b btn frame =
      ((s.setMenu (s.penHead p) n).setPen p ((s.pen p).confirmed btn.kind)).stage p
        (.menu (menuRecordOf n b btn status frame)) := by
  have menu_eq : (s.clearWindow p).menu (s.penHead p) = s.menu (s.penHead p) := rfl
  simp only [State.confirm, menu_eq, at_unit, State.clearWindow_setMenu_escape]

theorem State.confirm_of_load (at_unit : (s.menu (s.penHead p)).confirmed p b btn frame = (n, none)) :
    s.confirm p b btn frame = (s.setMenu (s.penHead p) n).setPen p ((s.pen p).confirmed btn.kind) := by
  have menu_eq : (s.clearWindow p).menu (s.penHead p) = s.menu (s.penHead p) := rfl
  simp only [State.confirm, menu_eq, at_unit, State.clearWindow_setMenu_escape]

end

/-! ## The obligation -/

/-- Settles O27: by the confirmed button's kind, the unit's change is one `MenuUnit.confirmed` rule; the record is staged at
once, or goes with the load that starts. -/
theorem buttonConfirmed : Obligations.ButtonConfirmed := by
  intro p s b btn frame cur before behind h m current table index c record staged loads
  subst index
  have state : m.stateOf before.length = btn.state := MenuUnit.stateOf_of_table table rfl
  have staged_of {n : MenuUnit} {st : Bool} {status : MenuStatus}
      (at_unit : m.confirmed p before.length btn frame = (n, some status)) (n_current : n.current = some cur)
      (n_state : n.stateOf before.length = st) :
      s.confirm p before.length btn frame = staged n ((s.pen p).confirmed btn.kind) st status := by
    rw [State.confirm_of_record at_unit, menuRecordOf_eq n_current n_state]
    rfl
  have pen_eq {kind : ButtonKind} (is_kind : btn.kind = kind) (other : kind ≠ .escape) :
      (s.pen p).confirmed btn.kind = c :=
    PenChannel.confirmed_of_ne_escape _ (is_kind.trans_ne other)
  have loads_of {stack : List Nat} {page : Nat} {origin : Option Await → LoadOrigin}
      (at_unit : m.confirmed p before.length btn frame =
        (({ m with stack := stack } : MenuUnit).startLoad page
          (origin (some { pen := p, record := menuRecordOf m before.length btn .done frame })), none))
      (own_pen : (s.pen p).confirmed btn.kind = c) :
      s.confirm p before.length btn frame = loads stack page origin := by
    rw [State.confirm_of_load at_unit, own_pen, menuRecordOf_eq current state]
    rfl
  refine ⟨?momentary, ?escape, ?toggle, ?choice, ?page, ?back⟩
  case momentary =>
    intro kind
    rw [staged_of (MenuUnit.confirmed_momentary kind) current state, pen_eq kind (by decide)]
  case escape =>
    intro kind
    have escaped : (s.pen p).confirmed .escape =
        if c.opts.mode = .track then { c with track := c.track.escape } else c :=
      if_congr (and_iff_right rfl) rfl rfl
    rw [staged_of (MenuUnit.confirmed_escape kind) current state, kind, escaped]
    rfl
  case toggle =>
    intro kind
    have toggled := toggleState_around 0 before behind btn
    rw [Nat.zero_add, ← table] at toggled
    refine ⟨(m.retable (toggleState before.length 0 m.table)).dirty, fun i => ?dirty, ?confirmed⟩
    case dirty =>
      have mem_iff := MenuUnit.mem_retable_dirty table id { btn with state := !btn.state } i
      rw [List.map_id, List.map_id, ← toggled] at mem_iff
      simpa using mem_iff
    case confirmed =>
      rw [staged_of (MenuUnit.confirmed_toggle kind) current (MenuUnit.stateOf_of_table toggled rfl),
        pen_eq kind (by decide), MenuUnit.retable, toggled]
  case choice =>
    intro kind
    have chosen := chooseStates_around btn.group 0 before behind btn
    rw [Nat.zero_add, ← table] at chosen
    refine ⟨(m.retable (chooseStates before.length btn.group 0 m.table)).dirty, fun i => ?dirty, ?confirmed⟩
    case dirty =>
      have mem_iff :=
        MenuUnit.mem_retable_dirty table (Button.excluded btn.group) { btn with state := true } i
      simpa only [← chosen, Button.state_ne_excluded_iff, ne_eq, Bool.not_eq_true] using mem_iff
    case confirmed =>
      rw [staged_of (MenuUnit.confirmed_choice kind) current (MenuUnit.stateOf_of_table chosen (List.length_map _)),
        pen_eq kind (by decide), MenuUnit.retable, chosen]
      rfl
  case page =>
    intro kind
    split
    case isTrue room =>
      have at_unit := MenuUnit.confirmed_page_of_room (p := p) (b := before.length) (frame := frame) kind room
      rw [MenuUnit.pageNumber_of_current current] at at_unit
      exact loads_of at_unit (pen_eq kind (by decide))
    case isFalse full =>
      rw [staged_of (MenuUnit.confirmed_page_of_full kind full) current state, pen_eq kind (by decide)]
  case back =>
    intro kind
    refine ⟨fun empty => ?empty, fun top rest stacked => ?stacked⟩
    case empty => rw [staged_of (MenuUnit.confirmed_back_of_nil kind empty) current state, pen_eq kind (by decide)]
    case stacked => exact loads_of (MenuUnit.confirmed_back_of_cons kind stacked) (pen_eq kind (by decide))

end Sys2Proof.Machine
end

section
/-! PROOF. The tracking cross: an OWN ARM hit, its averages and the dead-band test, and the miss judgement
(R49, R133 to R137). -/

namespace Sys2Proof.Machine

open Sys2Proof

/-! ## Limits and distances (R134) -/

theorem clampTo_eq_max_min {lo hi : Nat} (ordered : lo ≤ hi) (v : Nat) : clampTo lo hi v = max lo (min hi v) := by
  unfold clampTo
  split
  case isTrue => omega
  case isFalse => split <;> omega

theorem distance_eq_natAbs (a b : Nat) : distance a b = Int.natAbs ((a : Int) - b) := by
  unfold distance
  split <;> omega

/-! ## A record staged beside a write to a pen -/

theorem State.stage_setPen (s : State) (p q : Pen) (c : PenChannel) (record : Record) :
    (s.setPen p c).stage q record = (s.stage q record).setPen p c := by
  have lost_eq : (s.setPen p c).loseRecords q 1 = (s.loseRecords q 1).setPen p c := rfl
  have report_eq : (s.setPen p c).report q = s.report q := rfl
  simp only [State.stage, report_eq, lost_eq]
  by_cases room : (s.report q).queue.length < Config.queueSize
  · cases (s.report q).out <;> simp only [if_pos room] <;> rfl
  · cases (s.report q).out <;> simp only [if_neg room]

/-! ## The tracking state under a hit (R132 to R134) -/

section
variable {t : Tracking} {f : Fence}

theorem Tracking.fenceX_eq (fence : t.fence = some f) (ordered : f.xmin ≤ f.xmax) (x : Nat) :
    t.fenceX x = max f.xmin (min f.xmax x) := by
  simp only [Tracking.fenceX, fence, clampTo_eq_max_min ordered]

theorem Tracking.fenceY_eq (fence : t.fence = some f) (ordered : f.ymin ≤ f.ymax) (y : Nat) :
    t.fenceY y = max f.ymin (min f.ymax y) := by
  simp only [Tracking.fenceY, fence, clampTo_eq_max_min ordered]

end

/-- The centre is written only where it changed, and a write under way is then made again. -/
theorem Tracking.moveTo_eq (t : Tracking) (x y : Nat) :
    t.moveTo x y =
      { t with
        cx := x, cy := y
        centre :=
          if x = t.cx ∧ y = t.cy then t.centre
          else match t.centre with
            | .idle => .writing
            | .writing | .writingAgain => .writingAgain
        second := if x = t.cx ∧ y = t.cy ∨ t.centre ≠ .idle then t.second else false } := by
  unfold Tracking.moveTo
  by_cases still : x = t.cx ∧ y = t.cy
  · obtain ⟨rfl, rfl⟩ := still
    simp
  · cases centre : t.centre <;> simp [still, Tracking.raiseCentre]

/-- A hit on an own arm shows the pen on the cross (R133). -/
def Tracking.armSeen (t : Tracking) (frame : Long) : Tracking :=
  { t with miss := 0, lastArm := some frame, fix := .tracking }

/-- How many hits an axis has summed with one more (R133). -/
def Tracking.armCount (t : Tracking) (onX : Bool) : Nat := if onX then t.nX + 1 else t.nY + 1

/-- A hit added to the sum of its axis (R133). -/
def Tracking.armSummed (t : Tracking) (onX : Bool) (hit : ClassifiedHit) : Tracking :=
  let k := t.armSeen hit.frame
  if onX then { k with sumX := t.sumX + hit.x, nX := t.nX + 1 }
  else { k with sumY := t.sumY + hit.y, nY := t.nY + 1 }

/-- The average that a hit completes on its axis: the sum starts anew and the centre moves within the fence (R134). -/
def Tracking.armAveraged (t : Tracking) (onX : Bool) (hit : ClassifiedHit) : Tracking :=
  let k := t.armSeen hit.frame
  if onX then
    ({ k with sumX := 0, nX := 0 }).moveTo (t.fenceX (average (t.sumX + hit.x) (ctxAvg hit.ctx))) t.cy
  else ({ k with sumY := 0, nY := 0 }).moveTo t.cx (t.fenceY (average (t.sumY + hit.y) (ctxAvg hit.ctx)))

/-! ## An OWN ARM hit at its pen (R133 to R135) -/

section
variable {s : State} {p : Pen} {c : PenChannel} {hit : ClassifiedHit}

theorem State.deadBandTest_setPen {ws : List Word} (active : s.activeCtx c.opts.head = some ws) (t : Tracking)
    (frame : Long) :
    (s.setPen p { c with track := t }).deadBandTest p ws frame =
      if Int.natAbs ((t.cx : Int) - t.rx) ≤ ctxDeadBand ws ∧ Int.natAbs ((t.cy : Int) - t.ry) ≤ ctxDeadBand ws then
        s.setPen p { c with track := t }
      else
        (s.stage p
          (.track
            { x := t.cx, y := t.cy, loft := convert ws c.opts.view t.cx t.cy, final := false, frame := frame })).setPen p
          { c with track := { t with rx := t.cx, ry := t.cy } } := by
  have active_after : (s.setPen p { c with track := t }).activeCtx c.opts.head = some ws := active
  simp only [State.deadBandTest, State.trackRecord, State.pen_setPen_self, State.stage_setPen, State.setPen_setPen,
    active_after, distance_eq_natAbs, ← Nat.not_le, ← not_and_or, ite_not]

theorem State.ownArmHit_filtered (stopped : c.opts.gated = true ∧ c.tipClosed = false) (arm : Nat) :
    (s.setPen hit.pen c).ownArmHit arm hit = s.setPen hit.pen { c with counters := c.counters.incFiltered } := by
  have off_gate : c.opts.gated = true ∧ ¬c.tipClosed = true := by rwa [Bool.not_eq_true]
  simp only [State.ownArmHit, State.pen_setPen_self, if_pos off_gate, State.count_setPen]

/-- Arms 0 and 1 feed x, arms 2 and 3 feed y (R49). -/
theorem State.ownArmHit_passed (passed : ¬(c.opts.gated = true ∧ c.tipClosed = false)) {arm : Nat} {onX : Bool}
    (axis : onX = decide (arm < 2)) :
    (s.setPen hit.pen c).ownArmHit arm hit =
      if c.track.armCount onX = ctxAvg hit.ctx then
        (s.setPen hit.pen { c with track := c.track.armAveraged onX hit }).deadBandTest hit.pen hit.ctx hit.frame
      else s.setPen hit.pen { c with track := c.track.armSummed onX hit } := by
  have on_gate : ¬(c.opts.gated = true ∧ ¬c.tipClosed = true) := by rwa [Bool.not_eq_true]
  cases onX with
  | true =>
    have feeds_x : arm < 2 := of_decide_eq_true axis.symm
    simp only [State.ownArmHit, State.pen_setPen_self, if_neg on_gate, if_pos feeds_x, State.setPen_setPen,
      State.averageX]
    rfl
  | false =>
    have feeds_y : ¬arm < 2 := of_decide_eq_false axis.symm
    simp only [State.ownArmHit, State.pen_setPen_self, if_neg on_gate, if_neg feeds_y, State.setPen_setPen,
      State.averageY]
    rfl

end

theorem categoryOf_ownArm {tag pen : Nat} (first : 1984 + 4 * pen ≤ tag) (last : tag ≤ 1987 + 4 * pen)
    (four_pens : pen < 4) (cls : Nat) : categoryOf tag cls pen .track = .ownArm ((tag - 1984) % 4) := by
  have not_drawn : ¬tag ≤ 1983 := by omega
  have own : tag ≤ 1999 ∧ (tag - 1984) / 4 = pen ∧ Mode.track = .track := ⟨by omega, by omega, rfl⟩
  rw [categoryOf, if_neg not_drawn, if_pos own]

theorem penNumber_lt (p : Pen) : penNumber p < 4 := by cases p <;> decide

theorem State.deliverHit_ownArm (s : State) {t : ClassifiedHit} {arm : Nat} (own : t.cat = .ownArm arm) :
    s.deliverHit t = s.ownArmHit arm t := by
  simp only [State.deliverHit, own]

/-! ## The miss judgement (R136, R137) -/

section
variable {s : State} {p : Pen} {ws : List Word} {frame : Long}

theorem State.missJudgement_kept
    (kept : s.activeCtx (s.penHead p) = none ∨ (s.pen p).track.fix ≠ .tracking ∨
      (s.pen p).track.lastArm = some (frame - 1)) : s.missJudgement p frame = s := by
  rw [State.penHead] at kept
  cases active : s.activeCtx (s.pen p).opts.head with
  | none => simp only [State.missJudgement, active]
  | some ws =>
    obtain none_active | other_fix | seen := kept
    · exact absurd (active.symm.trans none_active) (Option.some_ne_none ws)
    · simp only [State.missJudgement, active, if_pos other_fix]
    · simp only [State.missJudgement, active, prevFrame, if_pos seen, ite_self]

theorem State.missJudgement_missed (active : s.activeCtx (s.penHead p) = some ws)
    (tracking : (s.pen p).track.fix = .tracking) (unseen : (s.pen p).track.lastArm ≠ some (frame - 1)) :
    s.missJudgement p frame =
      let missed :=
        s.setPen p { s.pen p with track := { (s.pen p).track with miss := (s.pen p).track.miss + 1 } }
      if ctxLoss ws ≤ (s.pen p).track.miss + 1 then missed.trackLoss p .misses frame else missed := by
  rw [State.penHead] at active
  have not_seen : ¬(s.pen p).track.lastArm = some (prevFrame frame) := unseen
  simp only [State.missJudgement, active, tracking, ne_eq, not_true_eq_false, if_false, if_neg not_seen]

theorem State.trackLoss_setPen (c : PenChannel) (cause : LossCause) :
    (s.setPen p c).trackLoss p cause frame =
      (s.stage p (.trackLost c.track.cx c.track.cy cause frame)).setPen p
        { c with track := { c.track.dropSums with fix := .lost, miss := 0 } } := by
  simp only [State.trackLoss, State.pen_setPen_self, State.stage_setPen, State.setPen_setPen]

end

/-! ## The obligation -/

/-- Settles O25: the pulse becomes one classified hit of category OWN ARM, which the gate stops, or its axis sums or
averages; the miss judgement counts one miss, or ends the fix where LOSS is reached. -/
theorem ownArmHitTaken : Obligations.OwnArmHitTaken := by
  refine ⟨?hit, ?judgement⟩
  case hit =>
    intro p s ws st k f hit matched track first last fence c t frame onX pos n sum avg fixed mean cx cy moved near
      ordered_x ordered_y
    let taken := s.classify p ws (s.head (s.penHead p)).step frame st k
    let arm := (st.tag - 1984) % 4
    have axis : onX = decide (arm < 2) := rfl
    clear_value onX
    have own : taken.cat = .ownArm arm :=
      (congrArg (categoryOf st.tag st.cls (penNumber p)) track).trans
        (categoryOf_ownArm first last (penNumber_lt p) st.cls)
    have result_of {u : State} (at_pen : (s.setPen taken.pen c).ownArmHit arm taken = u) :
        exec (.penPulse p) s = .next u.grant := by
      rw [exec_penPulse_of_correlated hit matched, State.deliverHit_ownArm _ own]
      exact congrArg (fun v : State => Host.Outcome.next v.grant) at_pen
    have passed_gate (passed : ¬(c.opts.gated = true ∧ c.tipClosed = false)) :=
      State.ownArmHit_passed (s := s) (hit := taken) passed axis
    have moved_eq : t.armAveraged onX taken = moved := by
      cases onX with
      | true =>
        refine (Tracking.moveTo_eq ..).trans ?_
        rw [Tracking.fenceX_eq (t := t) fence ordered_x]
        rfl
      | false =>
        refine (Tracking.moveTo_eq ..).trans ?_
        rw [Tracking.fenceY_eq (t := t) fence ordered_y]
        rfl
    have tested (passed : ¬(c.opts.gated = true ∧ c.tipClosed = false)) (full : n = avg) {u : State}
        (at_test : (s.setPen p { c with track := moved }).deadBandTest p ws frame = u) :
        exec (.penPulse p) s = .next u.grant := by
      rw [← moved_eq] at at_test
      exact result_of ((passed_gate passed).trans ((if_pos full).trans at_test))
    obtain ⟨-, -, -, -, active⟩ := hit
    have dead_band := State.deadBandTest_setPen (p := p) (c := c) active moved frame
    have old_rx : moved.rx = t.rx := by cases onX <;> rfl
    have old_ry : moved.ry = t.ry := by cases onX <;> rfl
    rw [old_rx, old_ry] at dead_band
    refine ⟨?filtered, ?summed, ?near, ?far⟩
    case filtered =>
      intro stopped
      exact result_of (State.ownArmHit_filtered stopped arm)
    case summed =>
      intro passed more
      rw [result_of ((passed_gate passed).trans (if_neg more))]
      cases onX <;> rfl
    case near =>
      intro passed full close
      exact tested passed full (dead_band.trans (if_pos (of_decide_eq_true close)))
    case far =>
      intro passed full apart
      rw [tested passed full (dead_band.trans (if_neg (of_decide_eq_false apart))), State.setPen, State.stage_pens]
  case judgement =>
    intro p frame s c
    refine ⟨State.missJudgement_kept, fun ws active tracking unseen => ?_⟩
    rw [State.missJudgement_missed active tracking unseen]
    refine ⟨fun few => if_neg (Nat.not_le.2 few), fun lost => ?_⟩
    refine (if_pos lost).trans ?_
    rw [State.trackLoss_setPen, State.setPen, State.stage_pens]
    rfl

end Sys2Proof.Machine
end

section
/-! PROOF. Pen delay calibration: a hit against the target record, the judgement of a frame, and the result
(R23, R146 to R148, R150). -/

namespace Sys2Proof.Machine

open Sys2Proof

/-! ## A hit against the targets (R146) -/

section
variable {h : Nat}

theorem qualifies_of_within {t : Target} (started : t.s0 ≤ h) (in_reach : h ≤ t.s0 + t.len + 255) :
    qualifies (some t) h = some { t := h - t.s0, len := t.len } :=
  if_pos ⟨started, by omega⟩

theorem qualifies_eq_none {target : Option Target}
    (outside : ∀ t, target = some t → ¬(t.s0 ≤ h ∧ h ≤ t.s0 + t.len + 255)) : qualifies target h = none := by
  cases target with
  | none => rfl
  | some t =>
    have not_within := outside t rfl
    exact if_neg (by omega)

variable {fwd rev : Option Target} {m : Measure} (k : Calibration)

theorem Calibration.hit_saturated (fwd rev : Option Target) (h : Nat) : k.hit fwd rev h true = k := if_pos rfl

/-- The reverse target takes the hit whether or not the forward one would. -/
theorem Calibration.hit_reverse (on_reverse : qualifies rev h = some m) :
    k.hit fwd rev h false = { k with rev := if k.rev.isSome then k.rev else some m } := by
  cases was : k.rev <;> simp [Calibration.hit, on_reverse, was]

theorem Calibration.hit_forward (off_reverse : qualifies rev h = none) (on_forward : qualifies fwd h = some m) :
    k.hit fwd rev h false = { k with fwd := if k.fwd.isSome then k.fwd else some m } := by
  cases was : k.fwd <;> simp [Calibration.hit, off_reverse, on_forward, was]

theorem Calibration.hit_neither (off_reverse : qualifies rev h = none) (off_forward : qualifies fwd h = none) :
    k.hit fwd rev h false = k := by
  simp [Calibration.hit, off_reverse, off_forward]

end

/-! ## A pulse of a CALIBRATING pen (R20 to R23) -/

section
variable {s : State} {p : Pen} {c : PenChannel} {k : Calibration}

theorem State.takeHit_of_calibrating (calibrating : c.state = .calibrating) (measuring : c.calib = some k)
    (synced : (s.head c.opts.head).state = .synced) (not_held : (s.head c.opts.head).hold = false)
    (h : Nat) (saturated : Bool) (frame : Long) :
    (s.setPen p c).takeHit p h saturated frame =
      s.setPen p
        { c with
          calib := some (k.hit (s.head c.opts.head).forward (s.head c.opts.head).reverse h saturated) } := by
  simp [State.takeHit, calibrating, measuring, synced, not_held]

theorem exec_penPulse_of_calibrating (taken : s.hitTaken p) (calibrating : (s.pen p).state = .calibrating)
    (measuring : (s.pen p).calib = some k) (synced : (s.head (s.penHead p)).state = .synced)
    (not_held : (s.head (s.penHead p)).hold = false) :
    let x := s.head (s.penHead p)
    exec (.penPulse p) s =
      .next
        (s.setPen p
          { s.penAfterHit p with calib := some (k.hit x.forward x.reverse x.step x.saturated) }).grant := by
  have pulsed := State.pulse_of_hitTaken taken
  rw [State.takeHit_of_calibrating (c := s.penAfterHit p) calibrating measuring synced not_held] at pulsed
  exact congrArg (fun t : State => Host.Outcome.next t.grant) pulsed

end

/-! ## The judgement of a frame (R147) -/

/-- The frame is good: both measurements are present, against targets of equal length. -/
def Calibration.frameGood (k : Calibration) : Bool :=
  match k.fwd, k.rev with
  | some f, some r => decide (f.len = r.len)
  | _, _ => false

/-- What the frame adds to the sum; a frame that is not good adds nothing. -/
def Calibration.frameValue (k : Calibration) : Int :=
  match k.fwd, k.rev with
  | some f, some r => if f.len = r.len then (f.t : Int) + r.t - f.len else 0
  | _, _ => 0

theorem Calibration.judge_eq (k : Calibration) :
    k.judge =
      { k with
        judged := k.judged + 1, fwd := none, rev := none, sum := k.sum + k.frameValue
        good := if k.frameGood then k.good + 1 else k.good } := by
  obtain ⟨slot, good, judged, sum, fwd, rev⟩ := k
  unfold Calibration.judge Calibration.frameGood Calibration.frameValue
  cases fwd with
  | none => simp
  | some f =>
    cases rev with
    | none => simp
    | some r =>
      by_cases equal : f.len = r.len
      · have value_added : sum + f.t + r.t - f.len = sum + (f.t + r.t - f.len) := by ring
        simpa [equal] using value_added
      · simp [equal]

/-! ## The result, and the end of a calibration (R148, R150) -/

/-- The pen as the end of its calibration leaves it. -/
def PenChannel.calibrationEnded (c : PenChannel) : PenChannel :=
  { c with state := .armed, calib := none, window := .opened, track := c.track.dropSums }

section
variable (s : State) (p : Pen) (k : Calibration) (code value : Word)

theorem State.endCalibration_eq :
    s.endCalibration p k code value = (s.answer k.slot code value).setPen p (s.pen p).calibrationEnded := rfl

theorem State.endCalibration_setPen (c : PenChannel) :
    (s.setPen p c).endCalibration p k code value = (s.answer k.slot code value).setPen p c.calibrationEnded := by
  rw [State.endCalibration_eq, State.pen_setPen_self]
  exact State.setPen_setPen (s.answer k.slot code value) p c c.calibrationEnded

end

/-- The delay is the sum over 16, rounded half up; it passes 255 exactly from a sum of 4088 on. -/
theorem calibrationDelay_gt_iff (sum : Int) : 255 < ((sum + 8) / 16).toNat ↔ 4088 ≤ sum := by omega

theorem State.calibrationJudgement_eq {s : State} {p : Pen} {k : Calibration}
    (measuring : (s.pen p).calib = some k) :
    s.calibrationJudgement p =
      if k.judge.good = 8 then
        if k.judge.sum < 0 ∨ 4088 ≤ k.judge.sum then s.endCalibration p k.judge codeRange 0
        else
          (s.answer k.judge.slot codeOK (wordOf ((k.judge.sum + 8) / 16).toNat)).setPen p
            { s.pen p with delay := ((k.judge.sum + 8) / 16).toNat }.calibrationEnded
      else if k.judge.judged = 32 then s.endCalibration p k.judge codeTimeout (wordOf k.judge.good)
      else s.setPen p { s.pen p with calib := some k.judge } := by
  have out_of_range := or_congr_right (a := k.judge.sum < 0) (calibrationDelay_gt_iff k.judge.sum)
  simp only [State.calibrationJudgement, measuring, State.endCalibration_setPen]
  exact if_congr Iff.rfl (if_congr out_of_range rfl rfl) rfl

/-! ## The obligation -/

/-- Settles O28: the pulse hands the hit to `Calibration.hit`, whose target decides which measurement may be set; the
judged measurement decides which of the four results a judged frame start has. -/
theorem calibrationMeasured : Obligations.CalibrationMeasured := by
  refine ⟨?hit, ?judgement⟩
  case hit =>
    intro p s k taken calibrating measuring synced not_held x within result
    have result_of {k' : Calibration} (hit_eq : k.hit x.forward x.reverse x.step x.saturated = k') : result k' :=
      hit_eq ▸ exec_penPulse_of_calibrating taken calibrating measuring synced not_held
    refine ⟨fun saturated => ?saturated, fun in_order => ⟨fun t at_reverse reached => ?reverse, fun off_reverse =>
      ⟨fun t at_forward reached => ?forward, fun off_forward => ?neither⟩⟩⟩
    case saturated =>
      apply result_of
      rw [saturated, Calibration.hit_saturated]
    case reverse =>
      obtain ⟨started, in_reach⟩ := reached
      apply result_of
      rw [in_order, at_reverse, Calibration.hit_reverse k (qualifies_of_within started in_reach)]
    case forward =>
      obtain ⟨started, in_reach⟩ := reached
      apply result_of
      rw [in_order, at_forward,
        Calibration.hit_forward k (qualifies_eq_none off_reverse) (qualifies_of_within started in_reach)]
    case neither =>
      apply result_of
      rw [in_order, Calibration.hit_neither k (qualifies_eq_none off_reverse) (qualifies_eq_none off_forward)]
  case judgement =>
    intro p s k measuring good v j ended
    have judged : k.judge = j := k.judge_eq
    have outcome := State.calibrationJudgement_eq measuring
    rw [judged] at outcome
    refine ⟨fun eight out => ?range, fun d eight low high nonneg fits => ?delay, fun few last => ?timeout,
      fun few more => ?goes_on⟩
    case range => exact outcome.trans ((if_pos eight).trans (if_pos out))
    case delay =>
      have within : ¬(j.sum < 0 ∨ 4088 ≤ j.sum) := by omega
      have rounded : ((j.sum + 8) / 16).toNat = d := by omega
      rw [outcome, if_pos eight, if_neg within, rounded]
      rfl
    case timeout => exact outcome.trans ((if_neg few).trans (if_pos last))
    case goes_on => exact outcome.trans ((if_neg few).trans (if_neg more))

end Sys2Proof.Machine
end

section
/-! PROOF. What a step can do, said once: the operations that the commands come to, and what the end of an access can do
(R178, R179). -/

namespace Sys2Proof.Machine

open Sys2Proof

/-! ## What the end of an access does -/

/-- The service of a taken request by its kind; none stands for a kind word that names no kind (R173). -/
def State.serve (s : State) (k : Option Kind) (slot : SlotNo) (ws : List Word) : State :=
  match k with
  | none => s.doBadKind slot
  | some .loadContext => s.doLoadContext slot ws
  | some .switchContext => s.doSwitchContext slot ws
  | some .armPen => s.doArmPen slot ws
  | some .disarmPen => s.doDisarmPen slot ws
  | some .moveCross => s.doMoveCross slot ws
  | some .calibratePen => s.doCalibratePen slot ws
  | some .setMenuPage => s.doSetMenuPage slot ws
  | some .holdHead => s.doHoldHead slot ws
  | some .releaseHead => s.doReleaseHead slot ws
  | some .readCounters => s.doReadCounters slot ws

/-- A TAKEN write has ended without a bus error (R172, R173). -/
def State.takenDone (k : Option Kind) (s : State) : State :=
  match s.engine.work with
  | .taking slot ws => (s.joinOutstanding slot).serve k slot ws
  | _ => s

/-- A TAKEN write has ended with a bus error (R172). -/
def State.takenFailed (s : State) : State :=
  match s.engine.work with
  | .taking _ _ => s.passOn
  | _ => s

/-- All that the end of a live access of a purpose can do once the port is idle, by its purpose and its outcome. -/
inductive Completion : Purpose → (State → State) → Prop
  | nothing (u : Purpose) : Completion u fun t => t
  | centreWritten (p : Pen) (second : Bool) :
      Completion (.centreWord p second) fun t =>
        t.setPen p { t.pen p with track := (t.pen p).track.centreWritten second }
  | centreFailed (p : Pen) (second : Bool) :
      Completion (.centreWord p second) fun t => t.setPen p { t.pen p with track := (t.pen p).track.centreFailed }
  | pageRead (p : Pen) (w : Word) : Completion (.pageState p) fun t => t.pageRead p w
  | recordWritten (p : Pen) (k : Nat) : Completion (.recordWord p k) fun t => t.recordWritten p k
  | headerWritten (p : Pen) (k : Nat) : Completion (.headerWord p k) fun t => t.headerWritten p k
  | pageFault (u : Purpose) (p : Pen) : Completion u fun t => t.pageFault p
  | loadRead (h : Head) (w : Word) : Completion (.menuLoad h) fun t => t.loadRead h w
  | loadBusError (h : Head) : Completion (.menuLoad h) fun t => t.loadBusError h
  | writtenBack (h : Head) (i : Nat) (v : Bool) :
      Completion (.writeBack h i v) fun t => t.setMenu h ((t.menu h).writtenBack i v)
  | writeBackFailed (h : Head) (i : Nat) (v : Bool) :
      Completion (.writeBack h i v) fun t => t.setMenu h ((t.menu h).writeBackFailed i)
  | stateWordRead (slot : SlotNo) (w : Word) : Completion (.slotState slot) fun t => t.stateWordRead slot w
  | passOn (u : Purpose) : Completion u fun t => t.passOn
  | slotWordRead (w : Word) : Completion .slotWord fun t => t.slotWordRead w
  | takenDone (kind : Word) (k : Option Kind) : Completion (.taken kind) fun t => t.takenDone k
  | takenFailed (kind : Word) : Completion (.taken kind) fun t => t.takenFailed
  | fenceWordRead (w : Word) : Completion .fenceWord fun t => t.fenceWordRead w
  | fenceFailed : Completion .fenceWord fun t => t.fenceFailed
  | contextWordRead (w : Word) : Completion .contextWord fun t => t.contextWordRead w
  | contextFailed : Completion .contextWord fun t => t.contextFailed
  | snapshotWritten : Completion .snapshotWord fun t => t.snapshotWritten
  | snapshotFailed : Completion .snapshotWord fun t => t.snapshotFailed
  | resultWritten (k : Nat) : Completion (.resultWord k) fun t => t.resultWritten k
  | resultDropped (u : Purpose) : Completion u fun t => t.setEngine t.engine.dropResult

/-! ## What a command does -/

/-- A property of states that every command keeps, operation by operation. -/
structure KeptByCommands (I : State → Prop) : Prop where
  tick : ∀ s, I s → I s.tick
  strobe : ∀ s h w parity, I s → I (s.strobe h w parity).grant
  silent : ∀ s h, I s → I (s.setHead h (s.head h).silent)
  stepped : ∀ s h, I s → I (s.setHead h (s.head h).stepped)
  loseLink : ∀ s h, I s → I (s.loseLink h).grant
  pulse : ∀ s p, I s → I (s.pulse p).grant
  tipCloses : ∀ s p, I s → I (s.tipCloses p)
  tipOpens : ∀ s p, I s → I (s.tipOpens p).grant
  writeControl : ∀ s w, I s → I (s.writeControl w)
  takeDeferredStart : ∀ s, I s → I s.takeDeferredStart
  takeHardwareReset : ∀ s, I s → I s.takeHardwareReset
  finishReset : ∀ s, I s → I s.finishReset
  writeStatus : ∀ s w, I s → I (s.writeStatus w)
  writeAnchor : ∀ s w, I s → I (s.writeAnchor w)
  writeAttention : ∀ s, I s → I s.writeAttention
  beginScan : ∀ s, I s → I s.beginScan.grant
  accessEnd : ∀ s mine failed live, I s → (∀ u, mine u = true → Completion u (live u)) →
    I (s.accessEnd mine failed live)

section
variable {I : State → Prop} (kept : KeptByCommands I) {s t : State}
include kept

theorem KeptByCommands.takenEnd (ok : I s) {k : Option Kind} {serve : State → SlotNo → List Word → State}
    (serves : ∀ u slot ws, serve u slot ws = u.serve k slot ws) (e : WriteEnd) : I (s.takenEnd k e serve) := by
  obtain rfl : serve = fun u slot ws => u.serve k slot ws := by
    funext u slot ws
    exact serves u slot ws
  refine kept.accessEnd _ _ _ _ ok fun u is_taken => ?_
  cases u with
  | taken kind =>
    cases e with
    | done => exact .takenDone kind k
    | busError => exact .takenFailed kind
  | _ => cases is_taken

/-- The arms of `exec`, each by the operation that it comes to. -/
theorem exec_keeps (ok : I s) (c : Instr) : ∃ t, exec c s = .next t ∧ I t := by
  cases c with
  | frameStart h w => exact ⟨_, rfl, kept.strobe _ _ _ _ ok⟩
  | synchronisingFrameStart h w => exact ⟨_, rfl, kept.strobe _ _ _ _ ok⟩
  | stroke h w parity => exact ⟨_, rfl, kept.strobe _ _ _ _ ok⟩
  | unknownHeader h w parity => exact ⟨_, rfl, kept.strobe _ _ _ _ ok⟩
  | wordStrobe h w parity => exact ⟨_, rfl, kept.strobe _ _ _ _ ok⟩
  | silenceAlignment h => exact ⟨_, rfl, kept.silent _ _ ok⟩
  | stepPulse h => exact ⟨_, rfl, kept.stepped _ _ ok⟩
  | linkLoss h => exact ⟨_, rfl, kept.loseLink _ _ ok⟩
  | penPulse p => exact ⟨_, rfl, kept.pulse _ _ ok⟩
  | tipClose p => exact ⟨_, rfl, kept.tipCloses _ _ ok⟩
  | tipOpen p => exact ⟨_, rfl, kept.tipOpens _ _ ok⟩
  | start w => exact ⟨_, rfl, kept.writeControl _ _ ok⟩
  | runStop w => exact ⟨_, rfl, kept.writeControl _ _ ok⟩
  | headEnable h w => exact ⟨_, rfl, kept.writeControl _ _ ok⟩
  | headDisable h w => exact ⟨_, rfl, kept.writeControl _ _ ok⟩
  | noteEnable w => exact ⟨_, rfl, kept.writeControl _ _ ok⟩
  | softReset w => exact ⟨_, rfl, kept.writeControl _ _ ok⟩
  | deferredStart => exact ⟨_, rfl, kept.takeDeferredStart _ ok⟩
  | hardwareReset => exact ⟨_, rfl, kept.takeHardwareReset _ ok⟩
  | resetComplete => exact ⟨_, rfl, kept.finishReset _ ok⟩
  | noteClear w => exact ⟨_, rfl, kept.writeStatus _ _ ok⟩
  | anchor w => exact ⟨_, rfl, kept.writeAnchor _ _ ok⟩
  | attention w => exact ⟨_, rfl, kept.writeAttention _ ok⟩
  | scan => exact ⟨_, rfl, kept.beginScan _ ok⟩
  | badKind e => exact ⟨_, rfl, kept.takenEnd ok (fun _ _ _ => rfl) e⟩
  | loadContext e => exact ⟨_, rfl, kept.takenEnd ok (fun _ _ _ => rfl) e⟩
  | switchContext e => exact ⟨_, rfl, kept.takenEnd ok (fun _ _ _ => rfl) e⟩
  | armPen e => exact ⟨_, rfl, kept.takenEnd ok (fun _ _ _ => rfl) e⟩
  | disarmPen e => exact ⟨_, rfl, kept.takenEnd ok (fun _ _ _ => rfl) e⟩
  | moveCross e => exact ⟨_, rfl, kept.takenEnd ok (fun _ _ _ => rfl) e⟩
  | calibratePen e => exact ⟨_, rfl, kept.takenEnd ok (fun _ _ _ => rfl) e⟩
  | setMenuPage e => exact ⟨_, rfl, kept.takenEnd ok (fun _ _ _ => rfl) e⟩
  | holdHead e => exact ⟨_, rfl, kept.takenEnd ok (fun _ _ _ => rfl) e⟩
  | releaseHead e => exact ⟨_, rfl, kept.takenEnd ok (fun _ _ _ => rfl) e⟩
  | readCounters e => exact ⟨_, rfl, kept.takenEnd ok (fun _ _ _ => rfl) e⟩
  | stopComplete e =>
    refine ⟨_, rfl, ?_⟩
    split
    case isTrue => exact kept.accessEnd _ _ _ _ ok fun u _ => .nothing u
    case isFalse => exact ok
  | stateWordRead e =>
    refine ⟨_, rfl, kept.accessEnd _ _ _ _ ok fun u mine => ?_⟩
    cases u with
    | slotState slot =>
      cases e with
      | word w => exact .stateWordRead slot w
      | busError => exact .passOn _
    | _ => cases mine
  | slotWordRead e =>
    refine ⟨_, rfl, kept.accessEnd _ _ _ _ ok fun u mine => ?_⟩
    obtain rfl := of_decide_eq_true mine
    cases e with
    | word w => exact .slotWordRead w
    | busError => exact .passOn _
  | fenceRead e =>
    refine ⟨_, rfl, kept.accessEnd _ _ _ _ ok fun u mine => ?_⟩
    obtain rfl := of_decide_eq_true mine
    cases e with
    | word w => exact .fenceWordRead w
    | busError => exact .fenceFailed
  | contextWordRead e =>
    refine ⟨_, rfl, kept.accessEnd _ _ _ _ ok fun u mine => ?_⟩
    obtain rfl := of_decide_eq_true mine
    cases e with
    | word w => exact .contextWordRead w
    | busError => exact .contextFailed
  | snapshotWordWritten e =>
    refine ⟨_, rfl, kept.accessEnd _ _ _ _ ok fun u mine => ?_⟩
    obtain rfl := of_decide_eq_true mine
    cases e with
    | done => exact .snapshotWritten
    | busError => exact .snapshotFailed
  | resultWordWritten e =>
    refine ⟨_, rfl, kept.accessEnd _ _ _ _ ok fun u mine => ?_⟩
    cases u with
    | resultWord k =>
      cases e with
      | done => exact .resultWritten k
      | busError => exact .resultDropped _
    | _ => cases mine
  | menuLoadRead e =>
    refine ⟨_, rfl, kept.accessEnd _ _ _ _ ok fun u mine => ?_⟩
    cases u with
    | menuLoad h =>
      cases e with
      | word w => exact .loadRead h w
      | busError => exact .loadBusError h
    | _ => cases mine
  | writeBackDone e =>
    refine ⟨_, rfl, kept.accessEnd _ _ _ _ ok fun u mine => ?_⟩
    cases u with
    | writeBack h i v =>
      cases e with
      | done => exact .writtenBack h i v
      | busError => exact .writeBackFailed h i v
    | _ => cases mine
  | reportStateRead e =>
    refine ⟨_, rfl, kept.accessEnd _ _ _ _ ok fun u mine => ?_⟩
    cases u with
    | pageState p =>
      cases e with
      | word w => exact .pageRead p w
      | busError => exact .pageFault _ p
    | _ => cases mine
  | recordWordWritten e =>
    refine ⟨_, rfl, kept.accessEnd _ _ _ _ ok fun u mine => ?_⟩
    cases u with
    | recordWord p k =>
      cases e with
      | done => exact .recordWritten p k
      | busError => exact .pageFault _ p
    | _ => cases mine
  | headerWordWritten e =>
    refine ⟨_, rfl, kept.accessEnd _ _ _ _ ok fun u mine => ?_⟩
    cases u with
    | headerWord p k =>
      cases e with
      | done => exact .headerWritten p k
      | busError => exact .pageFault _ p
    | _ => cases mine
  | centreWordWritten e =>
    refine ⟨_, rfl, kept.accessEnd _ _ _ _ ok fun u mine => ?_⟩
    cases u with
    | centreWord p second =>
      cases e with
      | done => exact .centreWritten p second
      | busError => exact .centreFailed p second
    | _ => cases mine

end

/-- A property that moreover does not look at the waiting commands. -/
structure KeptBySteps (I : State → Prop) : Prop extends KeptByCommands I where
  queue : ∀ s cs, I s → I { s with pending := cs }

/-- What every command keeps, and a reference period on an empty queue, every step keeps. -/
theorem step_keeps {I : State → Prop} (kept : KeptBySteps I) {s t : State} (ok : I s) (stepped : step s = .next t) : I t := by
  unfold step at stepped
  split at stepped
  case h_1 =>
    cases stepped
    exact kept.tick s ok
  case h_2 c cs _ =>
    obtain ⟨u, executed, u_ok⟩ := exec_keeps kept.toKeptByCommands (kept.queue s cs ok) c
    rw [executed] at stepped
    cases stepped
    exact u_ok

end Sys2Proof.Machine
end

section
/-! PROOF. The report path's operations as functions of the path alone, with the LOST note that each may set
(R152 to R162). -/

namespace Sys2Proof.Machine

open Sys2Proof

/-! ## Writing a path beside the LOST note -/

/-- The pen's path is replaced, and the LOST note is set where the flag says so. -/
def State.putReport (s : State) (p : Pen) (x : ReportPath × Bool) : State :=
  { s with
    reports := s.reports.set p x.1
    regs := { s.regs with notes := { s.regs.notes with lost := s.regs.notes.lost || x.2 } } }

section
variable (s : State) (p : Pen) (r : ReportPath) (x y : ReportPath × Bool)

@[simp] theorem State.putReport_report_self : (s.putReport p x).report p = x.1 := PerPen.get_set_self _ _ _

theorem State.putReport_report (q : Pen) : (s.putReport p x).report q = if q = p then x.1 else s.report q :=
  PerPen.get_set _ _ _ _

@[simp] theorem State.putReport_port : (s.putReport p x).port = s.port := rfl

@[simp] theorem State.putReport_lost : (s.putReport p x).regs.notes.lost = (s.regs.notes.lost || x.2) := rfl

@[simp] theorem State.putReport_putReport : (s.putReport p x).putReport p y = s.putReport p (y.1, x.2 || y.2) := by
  simp only [State.putReport, PerPen.set_set, Bool.or_assoc]

theorem State.setReport_eq_putReport : s.setReport p r = s.putReport p (r, false) := by
  simp only [State.setReport, State.putReport, Bool.or_false]

theorem State.putReport_self : s.putReport p (s.report p, false) = s := by
  rw [← State.setReport_eq_putReport, State.setReport, State.report, PerPen.set_get]

@[simp] theorem State.setReport_putReport : (s.putReport p x).setReport p r = s.putReport p (r, x.2) := by
  rw [State.setReport_eq_putReport, State.putReport_putReport, Bool.or_false]

theorem State.putReport_note_lost : (s.setReport p r).note .lost = s.putReport p (r, true) := by
  simp only [State.note, Notes.raise, State.putReport, Bool.or_true]
  rfl

end

/-! ## The operations at the path -/

namespace ReportPath

variable (r : ReportPath)

def lose (n : Nat) : ReportPath := { r with lost := satAdd r.lost n }

def discardFront (n : Nat) : ReportPath × Bool :=
  ({ r with queue := r.queue.drop n, lost := satAdd r.lost (min n r.queue.length) }, decide (min n r.queue.length ≠ 0))

def discardQueue : ReportPath × Bool :=
  ({ r with queue := [], lost := satAdd r.lost r.queue.length }, decide (r.queue ≠ []))

/-- The path keeps a queue, and there is room in it (R154). -/
def accepts : Bool :=
  match r.out with
  | .taking | .owned | .turning => decide (r.queue.length < Config.queueSize)
  | .stalled | .fault | .none => false

def stage (record : Record) : ReportPath × Bool :=
  if r.accepts then ({ r with queue := r.queue ++ [record] }, false) else (r.lose 1, true)

def takePages (pg : PageAddrs) : ReportPath :=
  { r with
    pages := some pg, pendingPages := none, current := .p0, mark := none, out := .taking, fill := 0,
    lostRecord := none, recordWord := 0, turnStep := 0, reread := false }

def endFlush : ReportPath × Bool :=
  match r.pendingPages with
  | some pg => (r.takePages pg, false)
  | none =>
    ({ r.discardQueue.1 with
      out := .none, current := .p0, mark := none, fill := 0, lostRecord := none, recordWord := 0, turnStep := 0,
      reread := false }, r.discardQueue.2)

def startClose : ReportPath := { r with out := .turning, turnStep := 0 }

def ownedNext : ReportPath × Bool :=
  match r.lostRecord with
  | some _ => (r, false)
  | none =>
    match r.mark with
    | some ⟨.flush, k⟩ =>
      if k = 0 then
        if r.fill = 0 then r.endFlush else (r.startClose, false)
      else if Config.pageRecords ≤ r.fill then
        ({ (r.discardFront k).1 with mark := some ⟨.flush, 0⟩ }.startClose, (r.discardFront k).2)
      else (r, false)
    | some ⟨.boundary, k⟩ => if k = 0 ∨ Config.pageRecords ≤ r.fill then (r.startClose, false) else (r, false)
    | none => if Config.pageRecords ≤ r.fill then (r.startClose, false) else (r, false)

/-- The path with its page owned and empty, and a LOST record formed where the lost count is above 0 (R155). -/
def owned : ReportPath :=
  { r with
    out := .owned, fill := 0, recordWord := 0, turnStep := 0, reread := false
    lostRecord := if r.lost = 0 then none else some r.lost
    lost := 0 }

def stall : ReportPath × Bool :=
  ({ r.discardQueue.1 with out := .stalled, mark := none, fill := 0, turnStep := 0, reread := false }, r.discardQueue.2)

/-- The page whose state word was read becomes current in TURNING (R158). -/
def turned : ReportPath := if r.out = .turning then { r with current := r.current.other } else r

/-- What the state word of the page that a path needs gives, in TAKING and in TURNING (R155, R158, R160). -/
def neededRead (w : Word) : ReportPath × Bool :=
  if r.flushing then
    if w = 0 ∧ r.markCount ≠ 0 then r.owned.ownedNext
    else
      ((r.discardFront r.markCount).1.endFlush.1,
        (r.discardFront r.markCount).2 || (r.discardFront r.markCount).1.endFlush.2)
  else if w = 0 then r.owned.ownedNext
  else r.stall

def pageRead (w : Word) : ReportPath × Bool :=
  match r.out with
  | .stalled =>
    if r.flushing then r.endFlush else if w = 0 then r.owned.ownedNext else ({ r with reread := false }, false)
  | .taking | .turning => r.turned.neededRead w
  | .owned | .fault | .none => (r, false)

/-- The path once the last word of a record is written, before what an owned path does next (R156). -/
def recordDone : ReportPath :=
  match r.lostRecord with
  | some _ => { r with recordWord := 0, fill := r.fill + 1, lostRecord := none }
  | none =>
    { r with
      recordWord := 0, fill := r.fill + 1, queue := r.queue.drop 1
      mark := r.mark.map (fun m => { m with count := m.count - 1 }) }

def recordWritten (k : Nat) : ReportPath × Bool :=
  if k + 1 < Config.recordWords then ({ r with recordWord := k + 1 }, false) else r.recordDone.ownedNext

/-- The path with READY written, the mark standing only during a flush (R158, R160). -/
def closed : ReportPath := { r with seq := r.seq + 1, turnStep := 3, mark := if r.flushing then r.mark else none }

/-- The path in FAULT, before the end of a flush that the fault meets (R161). -/
def faulted : ReportPath :=
  { r.discardQueue.1 with
    out := .fault, mark := none, fill := 0, recordWord := 0, turnStep := 0, reread := false, lostRecord := none
    lost := satAdd (satAdd r.lost r.queue.length) (r.lostRecord.getD 0).toNat }

def pageFault : ReportPath × Bool :=
  if r.flushing then (r.faulted.endFlush.1, r.discardQueue.2 || r.faulted.endFlush.2) else (r.faulted, r.discardQueue.2)

def boundary : ReportPath × Bool :=
  if r.flushing then (r, false)
  else
    match r.out with
    | .owned =>
      if 1 ≤ r.fill + r.queue.length then { r with mark := some ⟨.boundary, r.queue.length⟩ }.ownedNext else (r, false)
    | .stalled => ({ r with reread := true }, false)
    | .taking | .turning | .none | .fault => (r, false)

/-- The path with every queued record marked for a flush (R160). -/
def flushMarked (next : Option PageAddrs) : ReportPath :=
  { r with pendingPages := next, mark := some ⟨.flush, r.queue.length⟩ }

/-- A flush; `reading` says that a live read of the page's state word is in flight. -/
def flush (next : Option PageAddrs) (reading : Bool) : ReportPath × Bool :=
  if r.flushing then
    ({ r.lose (r.queue.length - r.markCount) with queue := r.queue.take r.markCount, pendingPages := next },
      decide (r.queue.length - r.markCount ≠ 0))
  else
    match r.out with
    | .owned => (r.flushMarked next).ownedNext
    | .taking => (r.flushMarked next, false)
    | .turning =>
      if r.turnStep = 3 ∧ r.queue.length = 0 ∧ ¬ reading then { r with pendingPages := next }.endFlush
      else (r.flushMarked next, false)
    | .stalled => if reading then (r.flushMarked next, false) else { r with pendingPages := next }.endFlush
    | .fault | .none => { r with pendingPages := next }.endFlush

def stop : ReportPath :=
  { r.discardQueue.1 with
    out := .none, mark := none, pendingPages := none, current := .p0, fill := 0, recordWord := 0, turnStep := 0
    reread := false, lostRecord := none
    lost := satAdd (satAdd r.lost r.queue.length) (r.lostRecord.getD 0).toNat }

end ReportPath

/-! ## The operations of State are these -/

section
variable (s : State) (p : Pen)

theorem State.loseRecords_eq (n : Nat) : s.loseRecords p n = s.putReport p ((s.report p).lose n, decide (n ≠ 0)) := by
  by_cases zero : n = 0
  · simp only [State.loseRecords, ReportPath.lose, zero, if_true, ne_eq, not_true_eq_false, decide_false,
      State.setReport_eq_putReport]
  · simp only [State.loseRecords, ReportPath.lose, zero, if_false, ne_eq, not_false_eq_true, decide_true,
      State.putReport_note_lost]

theorem State.stage_eq (record : Record) : s.stage p record = s.putReport p ((s.report p).stage record) := by
  have refused : s.loseRecords p 1 = s.putReport p ((s.report p).lose 1, true) := s.loseRecords_eq p 1
  cases out : (s.report p).out <;>
    simp only [State.stage, ReportPath.stage, ReportPath.accepts, out, refused, decide_eq_true_eq, Bool.false_eq_true,
      if_false, apply_ite (s.putReport p), State.setReport_eq_putReport]

theorem State.discardFront_eq (n : Nat) : s.discardFront p n = s.putReport p ((s.report p).discardFront n) := by
  simp only [State.discardFront, State.loseRecords_eq, State.putReport_report_self, State.setReport_putReport]
  rfl

theorem State.discardQueue_eq : s.discardQueue p = s.putReport p (s.report p).discardQueue := by
  simp only [State.discardQueue, State.discardFront_eq, ReportPath.discardFront, ReportPath.discardQueue, List.drop_length,
    Nat.min_self, ne_eq, List.length_eq_zero_iff]

theorem State.takePages_eq (pg : PageAddrs) : s.takePages p pg = s.putReport p ((s.report p).takePages pg, false) :=
  State.setReport_eq_putReport _ _ _

theorem State.endFlush_eq : s.endFlush p = s.putReport p (s.report p).endFlush := by
  cases pending : (s.report p).pendingPages with
  | some pg => simp only [State.endFlush, ReportPath.endFlush, pending, State.takePages_eq]
  | none =>
    simp only [State.endFlush, ReportPath.endFlush, pending, State.discardQueue_eq, State.putReport_report_self,
      State.setReport_putReport]

theorem State.startClose_eq : s.startClose p = s.putReport p ((s.report p).startClose, false) :=
  State.setReport_eq_putReport _ _ _

theorem State.ownedNext_eq : s.ownedNext p = s.putReport p (s.report p).ownedNext := by
  have stays := s.putReport_self p
  cases lost : (s.report p).lostRecord with
  | some c => simp only [State.ownedNext, ReportPath.ownedNext, lost, stays]
  | none =>
    cases mark : (s.report p).mark with
    | none =>
      simp only [State.ownedNext, ReportPath.ownedNext, lost, mark, apply_ite (s.putReport p), stays, State.startClose_eq]
    | some m =>
      obtain ⟨kind, k⟩ := m
      cases kind with
      | boundary =>
        simp only [State.ownedNext, ReportPath.ownedNext, lost, mark, apply_ite (s.putReport p), stays,
          State.startClose_eq]
      | flush =>
        simp only [State.ownedNext, ReportPath.ownedNext, lost, mark, apply_ite (s.putReport p), stays,
          State.endFlush_eq, State.startClose_eq, State.discardFront_eq, State.putReport_report_self,
          State.setReport_putReport, State.putReport_putReport, Bool.or_false]

theorem State.ownPage_eq : s.ownPage p = s.putReport p (s.report p).owned.ownedNext := by
  have owned_eq :
      (if (s.report p).lost = 0 then
          { s.report p with
            out := .owned, fill := 0, recordWord := 0, turnStep := 0, reread := false, lostRecord := none }
        else
          { s.report p with
            out := .owned, fill := 0, recordWord := 0, turnStep := 0, reread := false
            lostRecord := some (s.report p).lost, lost := 0 }) = (s.report p).owned := by
    unfold ReportPath.owned
    by_cases zero : (s.report p).lost = 0
    · simp only [zero, if_true]
    · simp only [zero, if_false]
  simp only [State.ownPage, owned_eq, State.ownedNext_eq, State.setReport_eq_putReport, State.putReport_report_self,
    State.putReport_putReport, Bool.false_or]

theorem State.stall_eq : s.stall p = s.putReport p (s.report p).stall := by
  simp only [State.stall, State.discardQueue_eq, State.putReport_report_self, State.setReport_putReport]
  rfl

theorem State.neededRead_eq (r : ReportPath) (w : Word) :
    (if r.flushing then
        if w = 0 ∧ r.markCount ≠ 0 then (s.setReport p r).ownPage p
        else ((s.setReport p r).discardFront p r.markCount).endFlush p
      else if w = 0 then (s.setReport p r).ownPage p else (s.setReport p r).stall p) =
    s.putReport p (r.neededRead w) := by
  simp only [ReportPath.neededRead, apply_ite (s.putReport p), State.setReport_eq_putReport, State.ownPage_eq,
    State.discardFront_eq, State.endFlush_eq, State.stall_eq, State.putReport_report_self, State.putReport_putReport,
    Bool.false_or]

theorem State.pageRead_eq (w : Word) : s.pageRead p w = s.putReport p ((s.report p).pageRead w) := by
  have stays := s.putReport_self p
  have needed := s.neededRead_eq p (s.report p).turned w
  cases out : (s.report p).out with
  | owned => simp only [State.pageRead, ReportPath.pageRead, out, stays]
  | fault => simp only [State.pageRead, ReportPath.pageRead, out, stays]
  | none => simp only [State.pageRead, ReportPath.pageRead, out, stays]
  | stalled =>
    simp only [State.pageRead, ReportPath.pageRead, out, apply_ite (s.putReport p), State.endFlush_eq, State.ownPage_eq,
      State.setReport_eq_putReport]
  | taking =>
    simp only [ReportPath.pageRead, out, ← needed, State.pageRead]
    simp only [ReportPath.turned, out]
  | turning =>
    simp only [ReportPath.pageRead, out, ← needed, State.pageRead]
    simp only [ReportPath.turned, out]

theorem State.recordWritten_eq (k : Nat) : s.recordWritten p k = s.putReport p ((s.report p).recordWritten k) := by
  have done : s.recordWritten p k =
      if k + 1 < Config.recordWords then s.setReport p { s.report p with recordWord := k + 1 }
      else (s.setReport p (s.report p).recordDone).ownedNext p := by
    cases lost : (s.report p).lostRecord <;> simp only [State.recordWritten, ReportPath.recordDone, lost]
  simp only [done, ReportPath.recordWritten, apply_ite (s.putReport p), State.ownedNext_eq, State.setReport_eq_putReport,
    State.putReport_report_self, State.putReport_putReport, Bool.false_or]

theorem ReportPath.closed_flushed (r : ReportPath) :
    r.closed.flushing ∧ r.closed.markCount = 0 ↔ r.flushing ∧ r.markCount = 0 := by
  have same : r.flushing = true → r.closed.mark = r.mark := fun flushes => by rw [ReportPath.closed, if_pos flushes]
  have gone : r.flushing = false → r.closed.mark = none := fun rests => by
    rw [ReportPath.closed, if_neg (by rw [rests]; exact Bool.false_ne_true)]
  cases flushes : r.flushing with
  | true => rw [← flushes, ReportPath.flushing, ReportPath.markCount, same flushes]; rfl
  | false =>
    have rests : r.closed.flushing = false := by rw [ReportPath.flushing, gone flushes]
    simp only [rests, Bool.false_eq_true, false_and]

/-- The write of READY sets the PAGE note, and no other of a path's operations does. -/
theorem State.headerWritten_eq (k : Nat) :
    s.headerWritten p k =
      if k < 2 then s.putReport p ({ s.report p with turnStep := k + 1 }, false)
      else
        (s.note .page).putReport p
          (if (s.report p).flushing ∧ (s.report p).markCount = 0 then (s.report p).closed.endFlush
           else ((s.report p).closed, false)) := by
  have noted : ∀ r, (s.setReport p r).note .page = (s.note .page).putReport p (r, false) := fun r => by
    rw [← State.setReport_eq_putReport]
    rfl
  have header : s.headerWritten p k =
      if k < 2 then s.setReport p { s.report p with turnStep := k + 1 }
      else if (s.report p).closed.flushing ∧ (s.report p).closed.markCount = 0 then
        ((s.setReport p (s.report p).closed).note .page).endFlush p
      else (s.setReport p (s.report p).closed).note .page := by
    have closed : (if (s.report p).flushing then { s.report p with seq := (s.report p).seq + 1, turnStep := 3 }
        else { s.report p with seq := (s.report p).seq + 1, turnStep := 3, mark := none }) = (s.report p).closed := by
      unfold ReportPath.closed
      split <;> rfl
    rw [← closed]
    rfl
  rw [header]
  simp only [noted, ReportPath.closed_flushed, State.endFlush_eq, State.putReport_report_self, State.putReport_putReport,
    Bool.false_or, apply_ite ((s.note .page).putReport p)]
  simp only [State.setReport_eq_putReport]

theorem State.pageFault_eq : s.pageFault p = s.putReport p (s.report p).pageFault := by
  have faulted : { (s.report p).discardQueue.1 with
      out := .fault, mark := none, fill := 0, recordWord := 0, turnStep := 0, reread := false, lostRecord := none
      lost := satAdd (s.report p).discardQueue.1.lost ((s.report p).discardQueue.1.lostRecord.getD 0).toNat } =
      (s.report p).faulted := rfl
  simp only [State.pageFault, ReportPath.pageFault, State.discardQueue_eq, State.putReport_report_self,
    State.setReport_putReport, State.endFlush_eq, State.putReport_putReport, faulted, apply_ite (s.putReport p)]

theorem State.reportBoundary_eq : s.reportBoundary p = s.putReport p (s.report p).boundary := by
  have stays := s.putReport_self p
  cases out : (s.report p).out <;>
    simp only [State.reportBoundary, ReportPath.boundary, out, apply_ite (s.putReport p), stays, State.ownedNext_eq,
      State.setReport_eq_putReport, State.putReport_report_self, State.putReport_putReport, Bool.false_or]

theorem State.flush_eq (next : Option PageAddrs) :
    s.flush p next = s.putReport p ((s.report p).flush next (s.pageReadInFlight p)) := by
  have reading : ∀ x, (s.putReport p x).pageReadInFlight p = s.pageReadInFlight p := fun _ => rfl
  by_cases flushing : (s.report p).flushing = true
  · simp only [State.flush, ReportPath.flush, flushing, if_true, State.loseRecords_eq, State.putReport_report_self,
      State.setReport_putReport, ReportPath.lose]
  · simp only [Bool.not_eq_true] at flushing
    cases out : (s.report p).out <;>
      simp only [State.flush, ReportPath.flush, flushing, out, Bool.false_eq_true, if_false, apply_ite (s.putReport p),
        State.ownedNext_eq, State.endFlush_eq, State.setReport_eq_putReport, State.putReport_report_self,
        State.putReport_putReport, Bool.false_or, reading, ReportPath.flushMarked]

theorem State.reportStop_eq : s.reportStop p = s.putReport p ((s.report p).stop, (s.report p).discardQueue.2) := by
  simp only [State.reportStop, State.discardQueue_eq, State.putReport_report_self, State.setReport_putReport]
  rfl

end

end Sys2Proof.Machine
end

section
/-! PROOF. The commands' operations by the blocks they work on: what a property of states must survive to survive every
command. -/

namespace Sys2Proof.Machine

open Sys2Proof

/-! ## One value for each head or pen -/

/-- One function at each head's own. -/
def PerHead.map {α β : Type} (f : α → β) (x : PerHead α) : PerHead β := { a := f x.a, b := f x.b }

/-- One function at each pen's own. -/
def PerPen.map {α β : Type} (f : α → β) (x : PerPen α) : PerPen β :=
  { p0 := f x.p0, p1 := f x.p1, p2 := f x.p2, p3 := f x.p3 }

@[simp] theorem PerHead.get_map {α β : Type} (f : α → β) (x : PerHead α) (h : Head) : (x.map f).get h = f (x.get h) := by
  cases h <;> rfl

@[simp] theorem PerPen.get_map {α β : Type} (f : α → β) (x : PerPen α) (p : Pen) : (x.map f).get p = f (x.get p) := by
  cases p <;> rfl

/-- What `f` keeps at every pen of head `h`, the walk over the pens of `h` keeps. -/
theorem State.forPensOn_induct {I : State → Prop} {h : Head} {f : State → Pen → State} {s : State}
    (keeps : ∀ t p, t.penHead p = h → I t → I (f t p)) (ok : I s) : I (s.forPensOn h f) := by
  have walk : ∀ (ps : List Pen) (t : State), I t → I (ps.foldl (fun t p => if t.penHead p = h then f t p else t) t) := by
    intro ps
    induction ps with
    | nil => exact fun t ok => ok
    | cons p ps ih =>
      intro t ok
      refine ih _ ?_
      beta_reduce
      split
      case isTrue assigned => exact keeps t p assigned ok
      case isFalse => exact ok
  exact walk allPens s ok

/-! ## A RUN stop and a reset, field by field -/

/-- A pen channel as a RUN stop leaves it (R35, R132, R151). -/
def PenChannel.stop (c : PenChannel) : PenChannel :=
  { c with
    state := .disarmed, window := .opened, run := none, lockout := none, deadMark := none, calib := none
    track := c.track.rest }

/-- A RUN stop at every block, before the end of the stop (R168). -/
def State.stopped (s : State) : State where
  heads := s.heads.map HeadRx.runStop
  ctx := s.ctx.map CtxStore.stop
  menus := s.menus.map MenuUnit.stop
  pens := s.pens.map PenChannel.stop
  reports := s.reports.map ReportPath.stop
  engine := s.engine.stop
  port := s.port.map Access.end
  regs :=
    { s.regs with
      run := false
      notes :=
        { s.regs.notes with lost := s.regs.notes.lost || allPens.any (fun p => decide ((s.report p).queue ≠ [])) } }
  pending := s.pending

theorem State.foldl_penStop (s : State) : allPens.foldl State.penStop s = { s with pens := s.pens.map PenChannel.stop } := rfl

theorem State.foldl_reportStop (s : State) :
    allPens.foldl State.reportStop s =
      { s with
        reports := s.reports.map ReportPath.stop
        regs :=
          { s.regs with
            notes :=
              { s.regs.notes with
                lost := s.regs.notes.lost || allPens.any (fun p => decide ((s.report p).queue ≠ [])) } } } := by
  simp only [allPens, List.foldl_cons, List.foldl_nil, State.reportStop_eq, List.any_cons, List.any_nil, Bool.or_false,
    ← Bool.or_assoc]
  rfl

theorem State.runStop_eq (s : State) : s.runStop = s.stopped.finishStop := by
  simp only [State.runStop, State.foldl_penStop, State.foldl_reportStop]
  rfl

section
variable (s : State) (anchor : BitVec 14) (port : Option Access)

theorem State.head_resetBlocks (h : Head) : (s.resetBlocks anchor port).head h = .reset := by cases h <;> rfl

theorem State.store_resetBlocks (h : Head) : (s.resetBlocks anchor port).store h = .reset := by cases h <;> rfl

theorem State.menu_resetBlocks (h : Head) : (s.resetBlocks anchor port).menu h = .reset := by cases h <;> rfl

theorem State.pen_resetBlocks (p : Pen) : (s.resetBlocks anchor port).pen p = .reset (s.pen p).tipClosed := by
  cases p <;> rfl

theorem State.report_resetBlocks (p : Pen) :
    (s.resetBlocks anchor port).report p = .reset (s.report p).lostAtReset := by
  cases p <;> rfl

end

/-! ## What a receiver does by itself -/

/-- A change of a receiver that no other block sees: its history stays in order, the count of the window and everything of a
hold stay, and it does not go OFF. -/
structure HeadRx.OwnChange (x y : HeadRx) : Prop where
  history : x.historyOk → y.historyOk
  windowCount : y.windowCount = x.windowCount
  hold : y.hold = x.hold
  holdPending : y.holdPending = x.holdPending
  waitingSlot : y.waitingSlot = x.waitingSlot
  off : y.state = .off → x.state = .off

namespace HeadRx

variable (x : HeadRx)

theorem historyOk_congr {x y : HeadRx} (step : y.step = x.step) (saturated : y.saturated = x.saturated)
    (state : y.state = x.state) (history : y.history = x.history) (ok : x.historyOk) : y.historyOk := by
  unfold historyOk at ok ⊢
  rw [step, saturated, state, history]
  exact ok

/-- A change of the link words and timers alone. -/
theorem ownChange_of_same {x y : HeadRx} (step : y.step = x.step) (saturated : y.saturated = x.saturated)
    (state : y.state = x.state) (history : y.history = x.history) (windowCount : y.windowCount = x.windowCount)
    (hold : y.hold = x.hold) (holdPending : y.holdPending = x.holdPending) (waitingSlot : y.waitingSlot = x.waitingSlot) :
    x.OwnChange y :=
  ⟨historyOk_congr step saturated state history, windowCount, hold, holdPending, waitingSlot,
    fun off => state ▸ off⟩

theorem historyOk_of_empty {x : HeadRx} (step : x.step = 0) (saturated : x.saturated = false) (history : x.history = []) :
    x.historyOk := by
  refine ⟨step ▸ Nat.zero_le _, ?_, fun _ => ⟨step, history⟩, ?_, ?_, ?_⟩
  · rw [step, saturated]; decide
  · rw [history]; exact Nat.zero_le _
  · rw [history]; exact .nil
  · rw [history]; exact fun e mem => absurd mem List.not_mem_nil

theorem ownChange_silent : x.OwnChange x.silent := by
  unfold silent
  split
  case isTrue => exact ownChange_of_same rfl rfl rfl rfl rfl rfl rfl rfl
  case isFalse => exact ownChange_of_same rfl rfl rfl rfl rfl rfl rfl rfl

theorem ownChange_seek : x.OwnChange x.seek :=
  ⟨fun _ => historyOk_of_empty rfl rfl rfl, rfl, rfl, rfl, rfl, fun off => by cases off⟩

/-- A step pulse moves the step counter on, and no entry of the history starts after it (R4). -/
theorem ownChange_stepped : x.OwnChange x.stepped := by
  unfold stepped
  split
  case isFalse => exact ownChange_of_same rfl rfl rfl rfl rfl rfl rfl rfl
  case isTrue synced =>
    split
    case isFalse => exact ownChange_of_same rfl rfl rfl rfl rfl rfl rfl rfl
    case isTrue below =>
      refine ⟨fun ok => ?_, rfl, rfl, rfl, rfl, id⟩
      obtain ⟨_, saturated, _, full, apart, fits⟩ := ok
      refine ⟨below, ?_, fun left => absurd synced left, full, apart, fun e mem => ?_⟩
      · have not_full : decide (x.step = Config.stepMax) = false := decide_eq_false (Nat.ne_of_lt below)
        show (x.saturated || decide (x.step + 1 = Config.stepMax)) = _
        rw [saturated, not_full, Bool.false_or]
      · obtain ⟨pos, cut, short, started, coordinates⟩ := fits e mem
        exact ⟨pos, cut, short, Nat.le_succ_of_le started, coordinates⟩

theorem ownChange_clearAt (j : Nat) : x.OwnChange (x.clearAt j) := by
  unfold clearAt
  split <;> exact ownChange_of_same rfl rfl rfl rfl rfl rfl rfl rfl

/-! ### A stroke entered (R13 to R15) -/

/-- A history in order, whose entries end by step `now` at the latest where they are cut. -/
def inOrder (hist : List Stroke) : Prop := hist.Pairwise (fun a b => a.s0 < b.s0 ∧ a.s0 + a.eff ≤ b.s0)

/-- The overlap check leaves an ordered history whose spans end no later than the new start step (R14). -/
theorem cutNewest_spec {hist : List Stroke} {now : Nat} (ordered : inOrder hist) (fits : ∀ e ∈ hist, e.fits now) :
    inOrder (cutNewest hist now).1 ∧ (∀ e ∈ (cutNewest hist now).1, e.fits now) ∧
      (∀ e ∈ (cutNewest hist now).1, e.s0 < now ∧ e.s0 + e.eff ≤ now) ∧
      (cutNewest hist now).1.length ≤ hist.length := by
  unfold cutNewest
  rcases List.eq_nil_or_concat hist with rfl | ⟨older, n, rfl⟩
  · exact ⟨ordered, fits, fun e mem => absurd mem List.not_mem_nil, Nat.le_refl _⟩
  · rw [List.concat_eq_append] at *
    simp only [List.getLast?_append, List.getLast?_singleton, Option.some_or, List.dropLast_concat]
    have parts := List.pairwise_append.1 ordered
    obtain ⟨older_ordered, _, before⟩ := parts
    obtain ⟨pos, cut, short, started, coordinates⟩ := fits n (by simp)
    have older_fits : ∀ e ∈ older, e.fits now := fun e mem => fits e (List.mem_append_left _ mem)
    have older_ends : ∀ e ∈ older, e.s0 < now ∧ e.s0 + e.eff ≤ now := fun e mem => by
      obtain ⟨starts, ends⟩ := before e mem n (List.mem_singleton_self n)
      exact ⟨by omega, by omega⟩
    split
    case isFalse apart =>
      refine ⟨ordered, fits, fun e mem => ?_, Nat.le_refl _⟩
      rcases List.mem_append.1 mem with mem | mem
      · exact older_ends e mem
      · obtain rfl := List.mem_singleton.1 mem
        exact ⟨by omega, by omega⟩
    case isTrue overlaps =>
      split
      case isTrue gone =>
        exact ⟨older_ordered, older_fits, older_ends, by simp⟩
      case isFalse left =>
        refine ⟨List.pairwise_append.2 ⟨older_ordered, .cons (fun _ none => absurd none List.not_mem_nil) .nil, ?_⟩,
          fun e mem => ?_, fun e mem => ?_, by simp⟩
        · intro e mem m last
          obtain rfl := List.mem_singleton.1 last
          exact before e mem n (List.mem_singleton_self n)
        · rcases List.mem_append.1 mem with mem | mem
          · exact older_fits e mem
          · obtain rfl := List.mem_singleton.1 mem
            exact ⟨by show 1 ≤ now - n.s0; omega, by show now - n.s0 ≤ n.len; omega, short, started, coordinates⟩
        · rcases List.mem_append.1 mem with mem | mem
          · exact older_ends e mem
          · obtain rfl := List.mem_singleton.1 mem
            exact ⟨by show n.s0 < now; omega, by show n.s0 + (now - n.s0) ≤ now; omega⟩


theorem OwnChange.trans {x y z : HeadRx} (first : x.OwnChange y) (second : y.OwnChange z) : x.OwnChange z :=
  ⟨second.history ∘ first.history, second.windowCount.trans first.windowCount, second.hold.trans first.hold,
    second.holdPending.trans first.holdPending, second.waitingSlot.trans first.waitingSlot, first.off ∘ second.off⟩

/-- The bounds of an announced stroke (R3). -/
def strokeInBounds (st : Stroke) : Prop :=
  1 ≤ st.len ∧ st.len ≤ 4095 ∧ st.x0 ≤ Config.screenMax ∧ st.y0 ≤ Config.screenMax ∧ st.x1 ≤ Config.screenMax ∧
    st.y1 ≤ Config.screenMax

theorem strokeOf_inBounds {item : List LinkWord} {st : Stroke} (announced : strokeOf item = some st) :
    strokeInBounds st := by
  unfold strokeOf at announced
  split at announced
  case h_2 => cases announced
  case h_1 =>
    split at announced
    case h_1 => cases announced
    case h_2 =>
      split at announced
      case isFalse => cases announced
      case isTrue accepted =>
        cases announced
        simp only [Bool.and_eq_true, decide_eq_true_eq] at accepted
        obtain ⟨⟨⟨⟨⟨⟨_, x0⟩, y0⟩, x1⟩, y1⟩, pos⟩, short⟩ := accepted
        exact ⟨pos, short, x0, y0, x1, y1⟩

/-- The capacity check makes room for one entry (R15). -/
theorem capacity_spec {cut : List Stroke} (length : cut.length ≤ Config.historySize) :
    (if decide (Config.historySize ≤ cut.length) then cut.drop 1 else cut).Sublist cut ∧
      (if decide (Config.historySize ≤ cut.length) then cut.drop 1 else cut).length < Config.historySize := by
  by_cases full : Config.historySize ≤ cut.length
  · rw [decide_eq_true full, if_pos rfl, List.length_drop]
    refine ⟨List.drop_sublist 1 cut, ?_⟩
    simp only [Config.historySize] at length ⊢
    omega
  · rw [decide_eq_false full, if_neg Bool.false_ne_true]
    exact ⟨.refl cut, Nat.lt_of_not_le full⟩

theorem ownChange_enterStroke {st : Stroke} (synced : x.state = .synced) (bounds : strokeInBounds st) :
    x.OwnChange (x.enterStroke st) := by
  obtain ⟨pos, short, x0, y0, x1, y1⟩ := bounds
  unfold enterStroke
  split
  case isTrue => exact ownChange_of_same rfl rfl rfl rfl rfl rfl rfl rfl
  case isFalse =>
    refine ⟨fun ok => ?_, rfl, rfl, rfl, rfl, id⟩
    obtain ⟨range, saturated, _, full, ordered, fits⟩ := ok
    obtain ⟨cut_ordered, cut_fits, cut_ends, cut_length⟩ := cutNewest_spec ordered fits
    obtain ⟨kept_sub, kept_length⟩ := capacity_spec (Nat.le_trans cut_length full)
    refine ⟨range, saturated, fun left => absurd synced left, ?_, ?_, fun e mem => ?_⟩
    · rw [List.length_append]
      exact kept_length
    · refine List.pairwise_append.2 ⟨cut_ordered.sublist kept_sub, .cons (fun _ none => absurd none List.not_mem_nil) .nil, ?_⟩
      intro e mem new last
      obtain rfl := List.mem_singleton.1 last
      exact cut_ends e (kept_sub.subset mem)
    · rcases List.mem_append.1 mem with mem | mem
      · exact cut_fits e (kept_sub.subset mem)
      · obtain rfl := List.mem_singleton.1 mem
        exact ⟨pos, Nat.le_refl _, short, Nat.le_refl _, x0, y0, x1, y1⟩

end HeadRx

/-! ## What a strobe and a reference period can do -/

theorem State.setHead_head (s : State) (h : Head) : s.setHead h (s.head h) = s := by
  simp only [State.setHead, State.head, PerHead.set_get]

/-- A strobe changes the receiver by itself, or is a frame start that an aligned receiver accepts (R1, R2, R6, R7). -/
theorem State.strobe_cases (s : State) (h : Head) (w : Word) (parity : Bool) :
    (∃ y, (s.head h).OwnChange y ∧ s.strobe h w parity = s.setHead h y) ∨
    (∃ y, (s.head h).OwnChange y ∧ y.state = .synced ∧ s.strobe h w parity = (s.setHead h y).frameStart h) ∨
    (∃ y, (s.head h).OwnChange y ∧ y.state = .seeking ∧ s.strobe h w parity = (s.setHead h y).syncFrameStart h) := by
  have timer : (s.head h).OwnChange { s.head h with silence := 0 } :=
    HeadRx.ownChange_of_same rfl rfl rfl rfl rfl rfl rfl rfl
  have again : ∀ y z, (s.setHead h y).setHead h z = s.setHead h z := fun y z => by
    simp only [State.setHead, PerHead.set_set]
  by_cases is_off : (s.head h).state = .off
  · refine .inl ⟨s.head h, HeadRx.ownChange_of_same rfl rfl rfl rfl rfl rfl rfl rfl, ?_⟩
    rw [State.setHead_head, State.strobe]
    exact if_pos is_off
  unfold State.strobe
  simp only [is_off, if_false]
  split
  case isTrue => exact .inl ⟨_, timer, rfl⟩
  case isFalse =>
    split
    case isTrue =>
      unfold State.headerTaken
      simp only [State.head_setHead_self, again]
      split
      case isTrue =>
        split
        case isTrue synced => exact .inr (.inl ⟨_, timer, synced, rfl⟩)
        case isFalse other =>
          refine .inr (.inr ⟨_, timer, ?_, rfl⟩)
          cases state : (s.head h).state with
          | off => exact absurd state is_off
          | seeking => rfl
          | synced => exact absurd state other
      case isFalse =>
        split
        case isTrue =>
          refine .inl ⟨_, ?_, rfl⟩
          exact HeadRx.ownChange_of_same rfl rfl rfl rfl rfl rfl rfl rfl
        case isFalse =>
          refine .inl ⟨_, ?_, rfl⟩
          exact HeadRx.ownChange_of_same rfl rfl rfl rfl rfl rfl rfl rfl
    case isFalse =>
      split
      case isTrue =>
        rw [State.head_setHead_self, again]
        refine .inl ⟨_, ?_, rfl⟩
        exact HeadRx.ownChange_of_same rfl rfl rfl rfl rfl rfl rfl rfl
      case isFalse =>
        unfold State.itemTaken
        simp only [State.head_setHead_self, again]
        split
        case h_1 =>
          refine .inl ⟨_, ?_, rfl⟩
          exact HeadRx.ownChange_of_same rfl rfl rfl rfl rfl rfl rfl rfl
        case h_2 st announced =>
          have taken : (s.head h).OwnChange { s.head h with silence := 0, item := [] } :=
            HeadRx.ownChange_of_same rfl rfl rfl rfl rfl rfl rfl rfl
          split
          case isTrue synced =>
            exact .inl ⟨_, taken.trans (HeadRx.ownChange_enterStroke _ synced (HeadRx.strokeOf_inBounds announced)), rfl⟩
          case isFalse => exact .inl ⟨_, taken, rfl⟩

/-- A reference period changes the receiver by itself, and may then lose the link (R1, R11). -/
theorem State.tickHead_cases (s : State) (h : Head) :
    ∃ y, (s.head h).OwnChange y ∧ (s.tickHead h = s.setHead h y ∨ s.tickHead h = (s.setHead h y).loseLink h) := by
  have same : ∀ n, (s.head h).OwnChange { s.head h with silence := n } := fun n =>
    HeadRx.ownChange_of_same rfl rfl rfl rfl rfl rfl rfl rfl
  have timed : ∀ (x : HeadRx) n, x.OwnChange { x with linkTimer := n } := fun x n =>
    HeadRx.ownChange_of_same rfl rfl rfl rfl rfl rfl rfl rfl
  unfold State.tickHead
  dsimp only
  split
  case isTrue => exact ⟨_, same (s.head h).silence, .inl (s.setHead_head h).symm⟩
  case isFalse =>
    have silent : (s.head h).OwnChange
        (if (s.head h).silence + 1 = Config.silenceLimit then (s.head h).silent
          else if (s.head h).silence < Config.silenceLimit then { s.head h with silence := (s.head h).silence + 1 }
          else s.head h) := by
      split
      · exact HeadRx.ownChange_silent _
      · split
        · exact same _
        · exact same (s.head h).silence
    revert silent
    generalize (if (s.head h).silence + 1 = Config.silenceLimit then (s.head h).silent
      else if (s.head h).silence < Config.silenceLimit then { s.head h with silence := (s.head h).silence + 1 }
      else s.head h) = x
    intro silent
    split
    case isFalse => exact ⟨x, silent, .inl rfl⟩
    case isTrue =>
      split
      case isTrue => exact ⟨_, silent.trans (timed x _), .inl rfl⟩
      case isFalse => exact ⟨x, silent, .inr rfl⟩

/-! ## What a property of the blocks must survive -/

/-- A property of states that the blocks' operations keep, one condition for each. It does not depend on the registers, the
waiting commands or the engine's scan. -/
structure KeptByBlocks (I : State → Prop) : Prop where
  regs : ∀ s regs pending, I s → I { s with regs := regs, pending := pending }
  scan : ∀ s scanPending scan, I s → I (s.setEngine { s.engine with scanPending := scanPending, scan := scan })
  idle : ∀ s, I s → I (s.setPort none)
  granted : ∀ s a, s.port = none → s.firstWaiting = some a → I s → I (s.setPort (some a))
  clearPen : ∀ s p j, I s → I (s.setPen p ((s.pen p).clearAt j))
  highTaken : ∀ s slot addr clear k hi hi', s.engine.work = .snapshot slot addr clear k hi → I s →
    I (s.work (.snapshot slot addr clear k hi'))
  receiver : ∀ s h y, (s.head h).OwnChange y → I s → I (s.setHead h y)
  frameStart : ∀ s h, (s.head h).state = .synced → I s → I (s.frameStart h)
  syncFrameStart : ∀ s h, (s.head h).state = .seeking → I s → I (s.syncFrameStart h)
  loseLink : ∀ s h, I s → I (s.loseLink h)
  disableHead : ∀ s h, I s → I (s.disableHead h)
  pulse : ∀ s p, I s → I (s.pulse p)
  tipCloses : ∀ s p, I s → I (s.tipCloses p)
  tipOpens : ∀ s p, I s → I (s.tipOpens p)
  stopped : ∀ s, I s → I s.stopped
  resetBlocks : ∀ s anchor port, (∀ a, port = some a → a.delivery = .dropped) → I s → I (s.resetBlocks anchor port)
  closedSeq : ∀ s p, I s → I (s.setReport p { s.report p with seq := (s.report p).seq + 1 })
  completion : ∀ s a live, s.port = some a → a.delivery = .live → Completion a.purpose live → I s →
    I (live (s.setPort none))

namespace KeptByBlocks

variable {I : State → Prop} (kept : KeptByBlocks I) {s : State}
include kept

theorem setRegs (r : Regs) (ok : I s) : I (s.setRegs r) := kept.regs s r s.pending ok

theorem note (n : Note) (ok : I s) : I (s.note n) := kept.setRegs _ ok

theorem clearSnapshot (k : Nat) (ok : I s) : I (s.clearSnapshot k) := by
  unfold State.clearSnapshot
  split
  case h_1 => exact kept.receiver s _ _ (HeadRx.ownChange_clearAt _ _) ok
  case h_2 => exact kept.clearPen s _ _ ok

theorem takeSnapshotWord (ok : I s) : I s.takeSnapshotWord := by
  unfold State.takeSnapshotWord
  split
  case h_2 => exact ok
  case h_1 slot addr clear k hi writing =>
    cases clear with
    | false => exact kept.highTaken s _ _ _ _ _ _ writing ok
    | true =>
      have same : (s.clearSnapshot k).engine.work = s.engine.work := by simp
      exact kept.highTaken (s.clearSnapshot k) _ _ _ _ _ _ (same.trans writing) (kept.clearSnapshot k ok)

theorem grant (ok : I s) : I s.grant := by
  unfold State.grant
  split
  case h_1 => exact ok
  case h_2 idle =>
    split
    case h_1 => exact ok
    case h_2 a waits =>
      have granted := kept.granted s a idle waits ok
      dsimp only
      split
      case isTrue => exact kept.takeSnapshotWord granted
      case isFalse => exact granted

theorem strobe (h : Head) (w : Word) (parity : Bool) (ok : I s) : I (s.strobe h w parity) := by
  rcases s.strobe_cases h w parity with ⟨y, own, eq⟩ | ⟨y, own, synced, eq⟩ | ⟨y, own, seeking, eq⟩
  · exact eq ▸ kept.receiver s h y own ok
  · exact eq ▸ kept.frameStart _ h (by rw [State.head_setHead_self, synced]) (kept.receiver s h y own ok)
  · exact eq ▸ kept.syncFrameStart _ h (by rw [State.head_setHead_self, seeking]) (kept.receiver s h y own ok)

theorem tickHead (h : Head) (ok : I s) : I (s.tickHead h) := by
  obtain ⟨y, own, eq | eq⟩ := s.tickHead_cases h
  · exact eq ▸ kept.receiver s h y own ok
  · exact eq ▸ kept.loseLink _ h (kept.receiver s h y own ok)

theorem enableHead (h : Head) (ok : I s) : I (s.enableHead h) := by
  unfold State.enableHead
  dsimp only
  split
  case isTrue => exact kept.receiver s h _ (HeadRx.ownChange_seek _) ok
  case isFalse => exact ok

theorem finishStop (ok : I s) : I s.finishStop := by
  rcases State.finishStop_cases s with ⟨_, _, eq⟩ | ⟨_, eq⟩
  · rw [eq]
    exact kept.scan (s.setRegs { s.regs with running := false }) s.engine.scanPending none (kept.setRegs _ ok)
  · rw [eq]
    exact ok

theorem takeStart (ok : I s) : I s.takeStart := by
  have on : ∀ (b : Bool) (h : Head) (t : State), I t → I (if b then t.enableHead h else t) := fun b h t ok => by
    cases b with
    | true => exact kept.enableHead h ok
    | false => exact ok
  exact kept.scan _ true _ (on _ .B _ (on _ .A _ (kept.setRegs _ ok)))

theorem writeEnable (h : Head) (v : Bool) (ok : I s) : I (s.writeEnable h v) := by
  unfold State.writeEnable
  dsimp only
  split
  case isTrue => exact ok
  case isFalse =>
    have set := kept.setRegs (s.regs.setEnable h v) ok
    cases v with
    | false => exact kept.disableHead _ h set
    | true =>
      rw [if_pos rfl]
      split
      case isTrue => exact kept.enableHead h set
      case isFalse => exact set

theorem lowerRun (ok : I s) : I s.lowerRun := by
  unfold State.lowerRun
  split
  case isTrue => exact kept.setRegs _ ok
  case isFalse => exact s.runStop_eq ▸ kept.finishStop (kept.stopped s ok)

theorem raiseRun (ok : I s) : I s.raiseRun := by
  unfold State.raiseRun
  split
  case isTrue => exact kept.setRegs _ ok
  case isFalse => exact kept.takeStart ok

theorem writeControl (w : Word) (ok : I s) : I (s.writeControl w) := by
  unfold State.writeControl
  dsimp only
  split
  case isTrue => exact ok
  case isFalse =>
    split
    case isTrue =>
      refine kept.resetBlocks s _ _ (fun a dropped => ?_) ok
      obtain ⟨b, _, rfl⟩ := Option.map_eq_some_iff.1 dropped
      rfl
    case isFalse =>
      have lowered : ∀ t, I t → I (if t.regs.run ∧ ¬ w.getLsbD 0 then t.lowerRun else t) := fun t ok => by
        split
        case isTrue => exact kept.lowerRun ok
        case isFalse => exact ok
      have raised : ∀ t, I t → I (if ¬ t.regs.run ∧ w.getLsbD 0 then t.raiseRun else t) := fun t ok => by
        split
        case isTrue => exact kept.raiseRun ok
        case isFalse => exact ok
      exact kept.grant
        (raised _ (kept.writeEnable .B (w.getLsbD 2) (kept.writeEnable .A (w.getLsbD 1) (lowered _ (kept.setRegs _ ok)))))

theorem endedEffect (u : Purpose) (ok : I s) : I (s.endedEffect u) := by
  unfold State.endedEffect
  split
  case h_1 => exact kept.note _ (kept.closedSeq s _ ok)
  case h_2 => exact kept.note _ ok
  case h_3 => exact ok

theorem endAccess {a : Access} (failed : Bool) {live : State → State} (granted : s.port = some a)
    (completes : Completion a.purpose live) (ok : I s) : I (s.endAccess a failed live) := by
  unfold State.endAccess
  cases delivery : a.delivery with
  | live =>
    cases failed with
    | false => exact kept.completion s a live granted delivery completes ok
    | true => exact kept.completion (s.note .fault) a live granted delivery completes (kept.note _ ok)
  | ended =>
    cases failed with
    | false => exact kept.endedEffect _ (kept.idle s ok)
    | true => exact kept.note _ (kept.idle s ok)
  | dropped => exact kept.idle s ok

/-- What the blocks' operations keep, every command keeps. -/
theorem commands : KeptBySteps I where
  queue s cs ok := kept.regs s s.regs cs ok
  tick s ok := kept.grant (kept.tickHead .B (kept.tickHead .A ok))
  strobe s h w parity ok := kept.grant (kept.strobe h w parity ok)
  silent s h ok := kept.receiver s h _ (HeadRx.ownChange_silent _) ok
  stepped s h ok := kept.receiver s h _ (HeadRx.ownChange_stepped _) ok
  loseLink s h ok := kept.grant (kept.loseLink s h ok)
  pulse s p ok := kept.grant (kept.pulse s p ok)
  tipCloses := kept.tipCloses
  tipOpens s p ok := kept.grant (kept.tipOpens s p ok)
  writeControl s w ok := kept.writeControl w ok
  takeDeferredStart s ok := by
    unfold State.takeDeferredStart
    split
    case isTrue => exact kept.takeStart ok
    case isFalse => exact ok
  takeHardwareReset s ok := kept.resetBlocks s 0 none (fun _ absent => by cases absent) ok
  finishReset s ok := by
    unfold State.finishReset
    split
    case isTrue => exact kept.setRegs _ (kept.idle s ok)
    case isFalse => exact ok
  writeStatus s w ok := by
    unfold State.writeStatus
    split
    case isTrue => exact ok
    case isFalse => exact kept.setRegs _ ok
  writeAnchor s w ok := by
    unfold State.writeAnchor
    split
    case isTrue => exact ok
    case isFalse => exact kept.setRegs _ ok
  writeAttention s ok := by
    unfold State.writeAttention
    split
    case isTrue => exact ok
    case isFalse =>
      split
      case isTrue => exact kept.scan s true _ ok
      case isFalse => exact ok
  beginScan s ok := by
    refine kept.grant ?_
    unfold State.beginScan
    dsimp only
    split
    case isTrue => exact kept.scan s false _ ok
    case isFalse => exact ok
  accessEnd s mine failed live ok completes := by
    unfold State.accessEnd
    split
    case h_1 => exact ok
    case h_2 a granted =>
      split
      case isTrue mine => exact kept.grant (kept.finishStop (kept.endAccess failed granted (completes _ mine) ok))
      case isFalse => exact ok

end KeptByBlocks

end Sys2Proof.Machine
end

section
/-! PROOF. Every step keeps the step counters and the stroke histories in order (R4, R15). -/

namespace Sys2Proof.Machine

open Sys2Proof

/-! ## What the operations do to the receivers -/

/-- The slot that waits on a pending hold or release is answered as the change takes effect (R9, R10). -/
def State.answerWaiting (s : State) (x : HeadRx) : State :=
  match x.holdPending, x.waitingSlot with
  | true, some slot => s.answer slot codeOK 0
  | _, _ => s

@[simp] theorem State.answerWaiting_frame (s : State) (x : HeadRx) :
    (s.answerWaiting x).heads = s.heads ∧ (s.answerWaiting x).ctx = s.ctx ∧ (s.answerWaiting x).menus = s.menus ∧
    (s.answerWaiting x).pens = s.pens ∧ (s.answerWaiting x).reports = s.reports ∧ (s.answerWaiting x).port = s.port ∧
    (s.answerWaiting x).regs = s.regs ∧ (s.answerWaiting x).pending = s.pending ∧
    (s.answerWaiting x).engine.work = s.engine.work := by
  unfold State.answerWaiting
  split <;> simp [State.answer]

/-- A frame start before the scan event and a boundary's switch: the pending change, its answer, and the signal at the pens. -/
def State.signalled (s : State) (h : Head) (boundary sync : Bool) : State :=
  ((s.setHead h (s.head h).applyPending).answerWaiting (s.head h)).forPensOn h
    (State.signalPen (s.head h).frame boundary (s.head h).applyPending.hold sync)

theorem State.frameSignal_eq (s : State) (h : Head) (boundary sync : Bool) :
    s.frameSignal h boundary sync =
      (if boundary then (s.signalled h boundary sync).boundarySwitch h else s.signalled h boundary sync).setEngine
        { (if boundary then (s.signalled h boundary sync).boundarySwitch h
            else s.signalled h boundary sync).engine with scanPending := true } := by
  have held : (((s.setHead h (s.head h).applyPending).answerWaiting (s.head h)).head h).hold =
      (s.head h).applyPending.hold := by
    rw [State.head, (State.answerWaiting_frame _ _).1]
    exact congrArg HeadRx.hold (s.head_setHead_self h _)
  rw [State.signalled, ← held]
  unfold State.frameSignal State.answerWaiting
  cases pending : (s.head h).holdPending <;> cases waiting : (s.head h).waitingSlot <;> simp only [pending, waiting]

theorem State.signalled_heads (s : State) (h : Head) (boundary sync : Bool) :
    (s.signalled h boundary sync).heads = s.heads.set h (s.head h).applyPending := by
  rw [State.signalled, State.forPensOn_heads _ _ _ (fun t p => by simp)]
  simp

theorem State.signalled_ctx (s : State) (h : Head) (boundary sync : Bool) :
    (s.signalled h boundary sync).ctx = s.ctx := by
  rw [State.signalled, State.forPensOn_ctx _ _ _ (fun t p => by simp)]
  simp

theorem State.frameSignal_heads (s : State) (h : Head) (boundary sync : Bool) :
    (s.frameSignal h boundary sync).heads = s.heads.set h (s.head h).applyPending := by
  rw [State.frameSignal_eq, State.setEngine_heads]
  split <;> simp [State.signalled_heads]

theorem State.frameStart_heads (s : State) (h : Head) :
    (s.frameStart h).heads = s.heads.set h ((s.head h).advance (s.windowLength h)).applyPending := by
  rw [State.frameStart, State.frameSignal_heads, State.head_setHead_self, State.setHead_heads, PerHead.set_set]

theorem State.syncFrameStart_heads (s : State) (h : Head) :
    (s.syncFrameStart h).heads = s.heads.set h (s.head h).synchronise.applyPending := by
  rw [State.syncFrameStart, State.frameSignal_heads, State.head_setHead_self, State.setHead_heads, PerHead.set_set]

theorem State.loseLink_heads (s : State) (h : Head) :
    (s.loseLink h).heads =
      if (s.head h).state = .synced then
        s.heads.set h { (s.head h).seek with linkTimer := Config.linkTimeout, linkLosses := satInc (s.head h).linkLosses }
      else s.heads := by
  unfold State.loseLink
  dsimp only
  split
  case isTrue => rw [State.forPensOn_heads _ _ _ (fun t p => by simp)]; simp
  case isFalse => rfl

theorem State.disableHead_heads (s : State) (h : Head) :
    (s.disableHead h).heads = if (s.head h).state = .off then s.heads else s.heads.set h (s.head h).disable := by
  unfold State.disableHead
  dsimp only
  split
  case isTrue => rfl
  case isFalse =>
    rw [(State.abortSwitch_frame _ h).1, State.forPensOn_heads _ _ _ (fun t p => by simp)]
    (repeat' split) <;> simp

/-- A hold or release changes the flag that it is pending and the slot that waits on it, and nothing else of a receiver (R9, R10). -/
theorem State.holdRequest_heads (s : State) (h : Head) (slot : SlotNo) :
    ∃ pending waiting, (s.holdRequest h slot).heads =
      s.heads.set h { s.head h with holdPending := pending, waitingSlot := waiting } := by
  have stays : ∀ code value, ∃ pending waiting, (s.answer slot code value).heads =
      s.heads.set h { s.head h with holdPending := pending, waitingSlot := waiting } := fun code value =>
    ⟨(s.head h).holdPending, (s.head h).waitingSlot, (PerHead.set_get _ h).symm⟩
  unfold State.holdRequest
  dsimp only
  split
  case isTrue => exact stays _ _
  case isFalse =>
    split
    case h_1 => exact ⟨_, _, rfl⟩
    case h_2 => exact stays _ _
    case h_3 => exact stays _ _
    case h_4 => exact ⟨false, none, by split <;> rfl⟩

theorem State.releaseRequest_heads (s : State) (h : Head) (slot : SlotNo) :
    ∃ pending waiting, (s.releaseRequest h slot).heads =
      s.heads.set h { s.head h with holdPending := pending, waitingSlot := waiting } := by
  have stays : ∀ code value, ∃ pending waiting, (s.answer slot code value).heads =
      s.heads.set h { s.head h with holdPending := pending, waitingSlot := waiting } := fun code value =>
    ⟨(s.head h).holdPending, (s.head h).waitingSlot, (PerHead.set_get _ h).symm⟩
  unfold State.releaseRequest
  dsimp only
  split
  case h_1 => exact ⟨_, _, rfl⟩
  case h_2 => exact stays _ _
  case h_3 => exact ⟨false, none, by split <;> rfl⟩
  case h_4 => exact stays _ _

/-- The end of an access changes no receiver, but where a hold or release is handed over. -/
theorem Completion.heads {u : Purpose} {live : State → State} (completes : Completion u live) (t : State) :
    (live t).heads = t.heads ∨
      ∃ h pending waiting, (live t).heads =
        t.heads.set h { t.head h with holdPending := pending, waitingSlot := waiting } := by
  cases completes with
  | takenDone kind k =>
    beta_reduce
    unfold State.takenDone
    split
    case h_2 => exact .inl rfl
    case h_1 slot ws _ =>
      have joined : (t.joinOutstanding slot).heads = t.heads := by simp
      cases k with
      | none => exact .inl (by simp [State.serve])
      | some k =>
        cases k with
        | holdHead =>
          simp only [State.serve, State.doHoldHead]
          split
          case h_1 => exact .inl (by simp)
          case h_2 h _ => exact .inr ⟨h, (t.joinOutstanding slot).holdRequest_heads h slot⟩
        | releaseHead =>
          simp only [State.serve, State.doReleaseHead]
          split
          case h_1 => exact .inl (by simp)
          case h_2 h _ => exact .inr ⟨h, (t.joinOutstanding slot).releaseRequest_heads h slot⟩
        | _ => exact .inl (by simp [State.serve])
  | takenFailed => exact .inl (by beta_reduce; unfold State.takenFailed; split <;> simp)
  | _ => exact .inl (by simp)

/-! ## The histories -/

theorem State.historiesOk_of_heads {s t : State} (same : t.heads = s.heads) (ok : s.historiesOk) : t.historiesOk := by
  intro h
  rw [State.head, same]
  exact ok h

theorem State.historiesOk_of_set {s t : State} {h : Head} {x : HeadRx} (changed : t.heads = s.heads.set h x)
    (x_ok : x.historyOk) (ok : s.historiesOk) : t.historiesOk := by
  intro k
  rw [State.head, changed, PerHead.get_set]
  split
  case isTrue => exact x_ok
  case isFalse => exact ok k

theorem HeadRx.historyOk_applyPending {x : HeadRx} (ok : x.historyOk) : x.applyPending.historyOk := by
  unfold HeadRx.applyPending
  split
  case isTrue => exact HeadRx.historyOk_congr rfl rfl rfl rfl ok
  case isFalse => exact ok

theorem historiesOk_keptByBlocks : KeptByBlocks State.historiesOk where
  regs _ _ _ ok := ok
  scan _ _ _ ok := ok
  idle _ ok := ok
  granted _ _ _ _ ok := ok
  clearPen _ _ _ ok := ok
  highTaken _ _ _ _ _ _ _ _ ok := ok
  receiver s h y own ok := State.historiesOk_of_set (s.setHead_heads h y) (own.history (ok h)) ok
  frameStart s h _ ok := State.historiesOk_of_set (s.frameStart_heads h)
    (HeadRx.historyOk_applyPending (HeadRx.historyOk_of_empty rfl rfl rfl)) ok
  syncFrameStart s h _ ok := State.historiesOk_of_set (s.syncFrameStart_heads h)
    (HeadRx.historyOk_applyPending (HeadRx.historyOk_of_empty rfl rfl rfl)) ok
  loseLink s h ok := by
    have heads := s.loseLink_heads h
    split at heads
    case isTrue => exact State.historiesOk_of_set heads (HeadRx.historyOk_of_empty rfl rfl rfl) ok
    case isFalse => exact State.historiesOk_of_heads heads ok
  disableHead s h ok := by
    have heads := s.disableHead_heads h
    split at heads
    case isTrue => exact State.historiesOk_of_heads heads ok
    case isFalse => exact State.historiesOk_of_set heads (HeadRx.historyOk_of_empty rfl rfl rfl) ok
  pulse s p ok := State.historiesOk_of_heads (s.pulse_frame p).1 ok
  tipCloses _ _ ok := ok
  tipOpens s p ok := State.historiesOk_of_heads (s.tipOpens_frame p).1 ok
  stopped s ok := by
    intro h
    show ((s.heads.map HeadRx.runStop).get h).historyOk
    rw [PerHead.get_map, HeadRx.runStop]
    split
    case isTrue => exact ok h
    case isFalse => exact HeadRx.historyOk_of_empty rfl rfl rfl
  resetBlocks s anchor port _ _ := by
    intro h
    rw [s.head_resetBlocks anchor port h]
    exact HeadRx.historyOk_of_empty rfl rfl rfl
  closedSeq _ _ ok := ok
  completion s a live _ _ completes ok := by
    rcases completes.heads (s.setPort none) with same | ⟨h, pending, waiting, changed⟩
    · exact State.historiesOk_of_heads same ok
    · exact State.historiesOk_of_set changed (HeadRx.historyOk_congr rfl rfl rfl rfl (ok h)) ok

/-- Settles O54: no block but a receiver changes a step counter or a history, and each change of a receiver keeps its own in
order. -/
theorem historiesKept : Obligations.HistoriesKept :=
  fun _ _ ok stepped => step_keeps historiesOk_keptByBlocks.commands ok stepped

end Sys2Proof.Machine
end

section
/-! PROOF. The engine's work and the context stores through the operations; every step keeps the context slots and the window
counts in step (R8, R55, R60). -/

namespace Sys2Proof.Machine

open Sys2Proof

/-! ## The engine's work, which answers and pens leave alone -/

section
variable (s : State)

@[simp] theorem State.answer_work (slot : SlotNo) (code value : Word) :
    (s.answer slot code value).engine.work = s.engine.work := rfl

@[simp] theorem State.passOn_work : s.passOn.engine.work = .none := rfl

@[simp] theorem State.reply_work (slot : SlotNo) (code value : Word) : (s.reply slot code value).engine.work = .none := rfl

@[simp] theorem State.work_work (w : Work) : (s.work w).engine.work = w := rfl

@[simp] theorem State.joinOutstanding_work (slot : SlotNo) : (s.joinOutstanding slot).engine.work = .none := rfl

@[simp] theorem State.endCalibration_work (p : Pen) (c : Calibration) (code value : Word) :
    (s.endCalibration p c code value).engine.work = s.engine.work := rfl

@[simp] theorem State.calibrationJudgement_work (p : Pen) :
    (s.calibrationJudgement p).engine.work = s.engine.work := by
  unfold State.calibrationJudgement
  dsimp only
  (repeat' split) <;> simp

@[simp] theorem State.disturb_work (p : Pen) : (s.disturb p).engine.work = s.engine.work := by
  unfold State.disturb
  split <;> simp

@[simp] theorem State.judgePen_work (p : Pen) (frame : Long) (boundary : Bool) :
    (s.judgePen p frame boundary).engine.work = s.engine.work := by
  unfold State.judgePen
  dsimp only
  (repeat' split) <;> simp

@[simp] theorem State.markHeld_work (p : Pen) (held : Bool) : (s.markHeld p held).engine.work = s.engine.work := by
  unfold State.markHeld
  dsimp only
  split <;> simp

@[simp] theorem State.signalPen_work (frame : Long) (boundary held sync : Bool) (p : Pen) :
    (State.signalPen frame boundary held sync s p).engine.work = s.engine.work := by
  unfold State.signalPen
  dsimp only
  (repeat' split) <;> simp

@[simp] theorem State.switchPen_work (p : Pen) : (s.switchPen p).engine.work = s.engine.work := by
  unfold State.switchPen
  dsimp only
  (repeat' split) <;> simp

@[simp] theorem State.penLoss_work (cause : LossCause) (p : Pen) :
    (State.penLoss cause s p).engine.work = s.engine.work := by
  unfold State.penLoss
  dsimp only
  (repeat' split) <;> simp

/-- What `f` leaves of the engine's work at every pen, the walk over the pens of a head leaves. -/
theorem State.forPensOn_work (h : Head) (f : State → Pen → State)
    (hf : ∀ t p, (f t p).engine.work = t.engine.work) : (s.forPensOn h f).engine.work = s.engine.work :=
  State.forPensOn_keeps (fun t => t.engine.work) s h f hf

@[simp] theorem State.boundarySwitch_work (h : Head) : (s.boundarySwitch h).engine.work = s.engine.work := by
  unfold State.boundarySwitch
  split
  case h_1 => rfl
  case h_2 =>
    rw [State.answer_work, State.forPensOn_work _ h _ fun t p => t.switchPen_work p]
    rfl

@[simp] theorem State.abortSwitch_work (h : Head) : (s.abortSwitch h).engine.work = s.engine.work := by
  unfold State.abortSwitch
  split <;> rfl

@[simp] theorem State.signalled_work (h : Head) (boundary sync : Bool) :
    (s.signalled h boundary sync).engine.work = s.engine.work := by
  rw [State.signalled, State.forPensOn_work _ h _ fun t p => t.signalPen_work _ _ _ _ p]
  simp

@[simp] theorem State.frameSignal_work (h : Head) (boundary sync : Bool) :
    (s.frameSignal h boundary sync).engine.work = s.engine.work := by
  rw [State.frameSignal_eq, State.setEngine_engine]
  split <;> simp

@[simp] theorem State.frameStart_work (h : Head) : (s.frameStart h).engine.work = s.engine.work := by
  simp [State.frameStart]

@[simp] theorem State.syncFrameStart_work (h : Head) : (s.syncFrameStart h).engine.work = s.engine.work := by
  simp [State.syncFrameStart]

@[simp] theorem State.loseLink_work (h : Head) : (s.loseLink h).engine.work = s.engine.work := by
  unfold State.loseLink
  dsimp only
  split
  case isTrue =>
    rw [State.forPensOn_work _ h _ fun t p => t.penLoss_work _ p]
    simp
  case isFalse => rfl

@[simp] theorem State.disableHead_work (h : Head) : (s.disableHead h).engine.work = s.engine.work := by
  unfold State.disableHead
  dsimp only
  split
  case isTrue => rfl
  case isFalse =>
    rw [State.abortSwitch_work, State.forPensOn_work _ h _ fun t p => t.penLoss_work _ p]
    (repeat' split) <;> simp

@[simp] theorem State.answerLoad_work (h : Head) (l : PageLoad) (code : Word) (status : MenuStatus) :
    (s.answerLoad h l code status).engine.work = s.engine.work := by
  unfold State.answerLoad
  split <;> simp

@[simp] theorem State.loadFailed_work (h : Head) (l : PageLoad) (code : Word) (status : MenuStatus) :
    (s.loadFailed h l code status).engine.work = s.engine.work := by
  simp [State.loadFailed]

@[simp] theorem State.loadDone_work (h : Head) (l : PageLoad) (addr : Nat) (table : List Button) :
    (s.loadDone h l addr table).engine.work = s.engine.work := by
  simp only [State.loadDone, State.answerLoad_work]
  exact State.forPensOn_work _ h _ fun t p => by split <;> simp

@[simp] theorem State.loadRead_work (h : Head) (w : Word) : (s.loadRead h w).engine.work = s.engine.work := by
  unfold State.loadRead
  dsimp only
  (repeat' split) <;> simp

@[simp] theorem State.loadBusError_work (h : Head) : (s.loadBusError h).engine.work = s.engine.work := by
  unfold State.loadBusError
  split <;> simp

end

/-- Work that no promise but the slots' speaks of: not a context block's and not a fence's. -/
def Work.quiet : Work → Prop
  | .loading _ _ _ _ _ | .fencing _ _ _ => False
  | .none | .reading _ _ | .taking _ _ | .snapshot _ _ _ _ _ => True

/-- Work that reads a context block. -/
def Work.loads : Work → Prop
  | .loading _ _ _ _ _ => True
  | .none | .reading _ _ | .taking _ _ | .fencing _ _ _ | .snapshot _ _ _ _ _ => False

/-- The ends of accesses after which the engine may be busy with a context block or a fence. -/
inductive Completion.StartsBlock (t : State) : State → Prop
  | loadContext (slot : SlotNo) (ws : List Word) : StartsBlock t ((t.joinOutstanding slot).doLoadContext slot ws)
  | armPen (slot : SlotNo) (ws : List Word) : StartsBlock t ((t.joinOutstanding slot).doArmPen slot ws)
  | contextWordRead (w : Word) : StartsBlock t (t.contextWordRead w)
  | fenceWordRead (w : Word) : StartsBlock t (t.fenceWordRead w)

theorem Completion.work {u : Purpose} {live : State → State} (completes : Completion u live) (t : State) :
    (live t).engine.work = t.engine.work ∨ (live t).engine.work.quiet ∨ Completion.StartsBlock t (live t) := by
  cases completes with
  | stateWordRead slot w =>
    refine .inr (.inl ?_)
    beta_reduce
    unfold State.stateWordRead
    split <;> trivial
  | passOn => exact .inr (.inl trivial)
  | slotWordRead w =>
    beta_reduce
    unfold State.slotWordRead
    split
    case h_1 => exact .inr (.inl (by dsimp only; split <;> trivial))
    case h_2 => exact .inl rfl
  | takenDone kind k =>
    beta_reduce
    unfold State.takenDone
    split
    case h_2 => exact .inl rfl
    case h_1 slot ws _ =>
      cases k with
      | none => exact .inr (.inl trivial)
      | some k =>
        cases k with
        | loadContext => exact .inr (.inr (.loadContext slot ws))
        | armPen => exact .inr (.inr (.armPen slot ws))
        | switchContext =>
          refine .inr (.inl ?_)
          simp only [State.serve, State.doSwitchContext]
          (repeat' split) <;> trivial
        | disarmPen =>
          refine .inr (.inl ?_)
          simp only [State.serve, State.doDisarmPen]
          split <;> trivial
        | moveCross =>
          refine .inr (.inl ?_)
          simp only [State.serve, State.doMoveCross]
          (repeat' split) <;> trivial
        | calibratePen =>
          refine .inr (.inl ?_)
          simp only [State.serve, State.doCalibratePen]
          (repeat' split) <;> trivial
        | setMenuPage =>
          refine .inr (.inl ?_)
          simp only [State.serve, State.doSetMenuPage]
          (repeat' split) <;> trivial
        | holdHead =>
          refine .inr (.inl ?_)
          simp only [State.serve, State.doHoldHead]
          split <;> trivial
        | releaseHead =>
          refine .inr (.inl ?_)
          simp only [State.serve, State.doReleaseHead]
          split <;> trivial
        | readCounters =>
          refine .inr (.inl ?_)
          simp only [State.serve, State.doReadCounters]
          split <;> trivial
  | takenFailed kind =>
    beta_reduce
    unfold State.takenFailed
    split
    case h_1 => exact .inr (.inl trivial)
    case h_2 => exact .inl rfl
  | fenceWordRead w => exact .inr (.inr (.fenceWordRead w))
  | fenceFailed =>
    beta_reduce
    unfold State.fenceFailed
    split
    case h_1 => exact .inr (.inl trivial)
    case h_2 => exact .inl rfl
  | contextWordRead w => exact .inr (.inr (.contextWordRead w))
  | contextFailed =>
    beta_reduce
    unfold State.contextFailed
    split
    case h_1 => exact .inr (.inl trivial)
    case h_2 => exact .inl rfl
  | snapshotWritten =>
    beta_reduce
    unfold State.snapshotWritten
    split
    case h_1 => exact .inr (.inl (by split <;> trivial))
    case h_2 => exact .inl rfl
  | snapshotFailed =>
    beta_reduce
    unfold State.snapshotFailed
    split
    case h_1 => exact .inr (.inl trivial)
    case h_2 => exact .inl rfl
  | resultWritten k =>
    refine .inl ?_
    beta_reduce
    unfold State.resultWritten Engine.dropResult
    (repeat' split) <;> simp
  | resultDropped =>
    refine .inl ?_
    beta_reduce
    unfold Engine.dropResult
    split <;> rfl
  | _ => exact .inl (by simp)

end Sys2Proof.Machine
end

section
/-! PROOF. Every step keeps the context slots and the window counts in step (R8, R55, R60). -/

namespace Sys2Proof.Machine

open Sys2Proof

/-! ## The context stores through the operations -/

/-- A context store after a window boundary (R65). -/
def CtxStore.switched (c : CtxStore) : CtxStore :=
  match c.switchPending with
  | none => c
  | some _ => { c with active := c.active.other, switchPending := none }

theorem State.boundarySwitch_ctx (s : State) (h : Head) :
    (s.boundarySwitch h).ctx = s.ctx.set h (s.store h).switched := by
  unfold State.boundarySwitch CtxStore.switched
  cases pending : (s.store h).switchPending with
  | none =>
    simp only
    exact (PerHead.set_get _ h).symm
  | some slot =>
    simp only
    rw [(State.answer_frame _ _ _ _).2.1, State.forPensOn_ctx _ _ _ fun t p => by simp]
    rfl

theorem State.frameSignal_ctx (s : State) (h : Head) (boundary sync : Bool) :
    (s.frameSignal h boundary sync).ctx = if boundary then s.ctx.set h (s.store h).switched else s.ctx := by
  rw [State.frameSignal_eq, State.setEngine_ctx, apply_ite State.ctx, State.boundarySwitch_ctx, State.store,
    State.signalled_ctx]
  rfl

theorem State.frameStart_ctx (s : State) (h : Head) :
    (s.frameStart h).ctx =
      if (s.head h).atBoundary (s.windowLength h) then s.ctx.set h (s.store h).switched else s.ctx := by
  rw [State.frameStart, State.frameSignal_ctx]
  rfl

theorem State.syncFrameStart_ctx (s : State) (h : Head) :
    (s.syncFrameStart h).ctx = s.ctx.set h (s.store h).switched := by
  rw [State.syncFrameStart, State.frameSignal_ctx, if_pos rfl]
  rfl

theorem State.loseLink_ctx (s : State) (h : Head) : (s.loseLink h).ctx = s.ctx := by
  unfold State.loseLink
  dsimp only
  split
  case isTrue => rw [State.forPensOn_ctx _ _ _ fun t p => by simp]; rfl
  case isFalse => rfl

theorem State.abortSwitch_ctx (s : State) (h : Head) :
    (s.abortSwitch h).ctx = s.ctx.set h { s.store h with switchPending := none } := by
  unfold State.abortSwitch
  cases pending : (s.store h).switchPending with
  | none =>
    simp only
    rw [← pending]
    exact (PerHead.set_get _ h).symm
  | some slot => rfl

theorem State.disableHead_ctx (s : State) (h : Head) :
    (s.disableHead h).ctx =
      if (s.head h).state = .off then s.ctx else s.ctx.set h { s.store h with switchPending := none } := by
  unfold State.disableHead
  dsimp only
  split
  case isTrue => rfl
  case isFalse =>
    rw [State.abortSwitch_ctx, State.store]
    rw [State.forPensOn_ctx _ _ _ fun t p => by simp]
    split
    · split <;> rfl
    · rfl

/-! ### Slots -/

@[simp] theorem CtxStore.slot_setSlot_self (c : CtxStore) (n : SlotName) (x : CtxSlot) : (c.setSlot n x).slot n = x := by
  cases n <;> rfl

theorem CtxStore.slot_setSlot_of_ne (c : CtxStore) {n m : SlotName} (other : m ≠ n) (x : CtxSlot) :
    (c.setSlot n x).slot m = c.slot m := by
  match n, m, other with
  | .A, .B, _ => rfl
  | .B, .A, _ => rfl
  | .A, .A, other => exact absurd rfl other
  | .B, .B, other => exact absurd rfl other

@[simp] theorem CtxStore.setSlot_active (c : CtxStore) (n : SlotName) (x : CtxSlot) :
    (c.setSlot n x).active = c.active := by
  cases n <;> rfl

@[simp] theorem CtxStore.setSlot_switchPending (c : CtxStore) (n : SlotName) (x : CtxSlot) :
    (c.setSlot n x).switchPending = c.switchPending := by
  cases n <;> rfl

@[simp] theorem CtxStore.slot_switched (c : CtxStore) (n : SlotName) : c.switched.slot n = c.slot n := by
  unfold CtxStore.switched
  split <;> cases n <;> rfl

@[simp] theorem CtxStore.slot_stop (c : CtxStore) (n : SlotName) : c.stop.slot n = (c.slot n).stop := by
  cases n <;> rfl

/-- Two states whose stores hold the same slots. -/
def State.sameSlots (s t : State) : Prop := ∀ h n, (t.store h).slot n = (s.store h).slot n

theorem State.sameSlots_of_ctx {s t : State} (same : t.ctx = s.ctx) : s.sameSlots t := fun h n => by
  rw [State.store, same]
  rfl

theorem State.sameSlots_of_set {s t : State} {h : Head} {c : CtxStore} (changed : t.ctx = s.ctx.set h c)
    (same : ∀ n, c.slot n = (s.store h).slot n) : s.sameSlots t := fun k n => by
  rw [State.store, changed, PerHead.get_set]
  split
  case isTrue here => rw [here, same]
  case isFalse => rfl

theorem State.windowLength_congr {s t : State} {h : Head} (active : (t.store h).active = (s.store h).active)
    (same : (t.store h).slot (s.store h).active = (s.store h).slot (s.store h).active) :
    t.windowLength h = s.windowLength h := by
  simp only [State.windowLength_eq, active, same]

theorem State.windowLength_of_ctx {s t : State} (same : t.ctx = s.ctx) (h : Head) :
    t.windowLength h = s.windowLength h := by
  exact State.windowLength_congr (by rw [State.store, same]; rfl) (by rw [State.store, same]; rfl)

/-- A VALID context has a window of at least one frame (R60). -/
theorem CtxSlot.ok.one_le_length {x : CtxSlot} (ok : x.ok) (valid : x.state = .valid) : 1 ≤ ctxN x.words := by
  simp only [CtxSlot.ok, valid] at ok
  obtain ⟨_, none_bad⟩ := ok
  have all_good := List.find?_eq_none.1 (Option.map_eq_none_iff.1 none_bad)
  have good := all_good (133, decide (1 ≤ ctxN x.words ∧ ctxN x.words ≤ 16)) (by simp [ctxChecks])
  simp only [Bool.not_eq_true', decide_eq_false_iff_not, not_not] at good
  exact good.1

theorem State.one_le_windowLength {s : State} {h : Head} (ok : ((s.store h).slot (s.store h).active).ok) :
    1 ≤ s.windowLength h := by
  rw [State.windowLength_eq]
  split
  case isTrue valid => exact ok.one_le_length valid
  case isFalse => exact Nat.le_refl 1

/-! ## The promise -/

/-- Work that does not speak of a context block, or what the work was. -/
def Work.sameBlock (w v : Work) : Prop := v = w ∨ ¬ v.loads

theorem State.windowsOk_of_slots {s t : State} (slots : s.sameSlots t) (work : s.engine.work.sameBlock t.engine.work)
    (counts : ∀ h, (t.head h).windowCount < t.windowLength h) (ok : s.windowsOk) : t.windowsOk := by
  obtain ⟨slots_ok, loading_ok, _⟩ := ok
  refine ⟨fun h n => slots h n ▸ slots_ok h n, fun slot h n addr k loading => ?_, counts⟩
  rcases work with same | other
  · rw [slots h n]
    exact loading_ok slot h n addr k (same ▸ loading)
  · rw [loading] at other
    exact absurd trivial other

theorem State.windowsOk_congr {s t : State} (ctx : t.ctx = s.ctx) (work : s.engine.work.sameBlock t.engine.work)
    (counts : ∀ h, (t.head h).windowCount = (s.head h).windowCount) (ok : s.windowsOk) : t.windowsOk :=
  State.windowsOk_of_slots (State.sameSlots_of_ctx ctx) work
    (fun h => by rw [counts, State.windowLength_of_ctx ctx]; exact ok.2.2 h) ok

/-- One head's count changes, within the window, and its store at most switches. -/
theorem State.windowsOk_of_head {s t : State} {h : Head} {x : HeadRx} {c : CtxStore} (heads : t.heads = s.heads.set h x)
    (ctx : t.ctx = s.ctx.set h c) (same : ∀ n, c.slot n = (s.store h).slot n) (work : t.engine.work = s.engine.work)
    (count : x.windowCount = 0 ∨ c.active = (s.store h).active ∧ x.windowCount < s.windowLength h)
    (ok : s.windowsOk) : t.windowsOk := by
  have slots := State.sameSlots_of_set ctx same
  refine State.windowsOk_of_slots slots (.inl work) (fun k => ?_) ok
  by_cases here : k = h
  · subst here
    have head : t.head k = x := by rw [State.head, heads, PerHead.get_set_self]
    have store : t.store k = c := by rw [State.store, ctx, PerHead.get_set_self]
    rw [head]
    rcases count with zero | ⟨active, below⟩
    · rw [zero]
      exact State.one_le_windowLength (slots k (t.store k).active ▸ ok.1 k _)
    · rw [State.windowLength_congr (store ▸ active) (slots k _)]
      exact below
  · have head : t.head k = s.head k := by rw [State.head, heads, PerHead.get_set_of_ne _ here]; rfl
    have store : t.store k = s.store k := by rw [State.store, ctx, PerHead.get_set_of_ne _ here]; rfl
    rw [head, State.windowLength_congr (by rw [store]) (slots k _)]
    exact ok.2.2 k

@[simp] theorem HeadRx.applyPending_windowCount (x : HeadRx) : x.applyPending.windowCount = x.windowCount := by
  unfold HeadRx.applyPending
  split <;> rfl

theorem HeadRx.advance_windowCount (x : HeadRx) (n : Nat) :
    (x.advance n).windowCount =
      if x.hold then x.windowCount else if x.windowCount + 1 = n then 0 else x.windowCount + 1 := rfl

theorem State.windowsOk_frameStart {s : State} {h : Head} (ok : s.windowsOk) : (s.frameStart h).windowsOk := by
  have below : (s.head h).windowCount < s.windowLength h := ok.2.2 h
  by_cases boundary : (s.head h).atBoundary (s.windowLength h) = true
  · have switches : (s.frameStart h).ctx = s.ctx.set h (s.store h).switched := by
      rw [State.frameStart_ctx, if_pos boundary]
    refine State.windowsOk_of_head (s.frameStart_heads h) switches (CtxStore.slot_switched _) (s.frameStart_work h)
      (.inl ?_) ok
    simp only [HeadRx.atBoundary, Bool.and_eq_true, Bool.not_eq_true', decide_eq_true_eq] at boundary
    obtain ⟨free, last⟩ := boundary
    simp only [HeadRx.applyPending_windowCount, HeadRx.advance_windowCount, free, last, Bool.false_eq_true, if_true,
      if_false]
  · have stays : (s.frameStart h).ctx = s.ctx.set h (s.store h) := by
      rw [State.frameStart_ctx, if_neg boundary]
      exact (PerHead.set_get _ h).symm
    refine State.windowsOk_of_head (s.frameStart_heads h) stays (fun _ => rfl) (s.frameStart_work h)
      (.inr ⟨rfl, ?_⟩) ok
    simp only [HeadRx.atBoundary, Bool.and_eq_true, Bool.not_eq_true', decide_eq_true_eq, not_and] at boundary
    simp only [HeadRx.applyPending_windowCount, HeadRx.advance_windowCount]
    cases hold : (s.head h).hold with
    | true => exact below
    | false =>
      rw [if_neg Bool.false_ne_true, if_neg (boundary hold)]
      exact Nat.lt_of_le_of_ne below (boundary hold)

/-! ### The blocks of a load (R58 to R62) -/

theorem State.store_setCtxSlot (s : State) (h k : Head) (n : SlotName) (x : CtxSlot) :
    (s.setCtxSlot h n x).store k = if k = h then (s.store h).setSlot n x else s.store k :=
  State.store_setStore _ _ _ _

/-- A slot that is not the active VALID one changes, with the engine's work in step. -/
theorem State.windowsOk_setCtxSlot {s t : State} {h : Head} {n : SlotName} {x : CtxSlot}
    (ctx : t.ctx = (s.setCtxSlot h n x).ctx) (heads : t.heads = s.heads) (x_ok : x.ok)
    (not_active : n = (s.store h).active → ((s.store h).slot n).state ≠ .valid)
    (work : t.engine.work.quiet ∨ ∃ slot addr, t.engine.work = .loading slot h n addr x.words.length ∧ x.state = .loading)
    (ok : s.windowsOk) : t.windowsOk := by
  obtain ⟨slots_ok, _, counts⟩ := ok
  have store : ∀ k, t.store k = if k = h then (s.store h).setSlot n x else s.store k := fun k => by
    rw [State.store, ctx]
    exact s.store_setCtxSlot h k n x
  have slot_ok : ∀ k m, ((t.store k).slot m).ok := fun k m => by
    rw [store k]
    split
    case isFalse => exact slots_ok k m
    case isTrue =>
      by_cases here : m = n
      · rw [here, CtxStore.slot_setSlot_self]
        exact x_ok
      · rw [CtxStore.slot_setSlot_of_ne _ here]
        exact slots_ok h m
  refine ⟨slot_ok, fun slot k m addr i loading => ?_, fun k => ?_⟩
  · rcases work with quiet | ⟨slot', addr', busy, state⟩
    · rw [loading] at quiet
      exact quiet.elim
    · rw [loading] at busy
      cases busy
      rw [store, if_pos rfl, CtxStore.slot_setSlot_self]
      exact ⟨state, rfl⟩
  · have head : t.head k = s.head k := by rw [State.head, heads]; rfl
    rw [head]
    by_cases here : k = h
    · subst here
      have this_store : t.store k = (s.store k).setSlot n x := by rw [store, if_pos rfl]
      by_cases active : n = (s.store k).active
      · have one : s.windowLength k = 1 := by rw [State.windowLength_eq, if_neg (active ▸ not_active active)]
        have zero : (s.head k).windowCount = 0 := Nat.lt_one_iff.1 (one ▸ counts k)
        rw [zero]
        exact State.one_le_windowLength (slot_ok k _)
      · rw [State.windowLength_congr (s := s) (by rw [this_store, CtxStore.setSlot_active])
          (by rw [store, if_pos rfl, CtxStore.slot_setSlot_of_ne _ (Ne.symm active)])]
        exact counts k
    · rw [State.windowLength_congr (s := s) (by rw [store, if_neg here]) (by rw [store, if_neg here])]
      exact counts k

theorem State.windowsOk_doLoadContext {s : State} (slot : SlotNo) (ws : List Word) (ok : s.windowsOk) :
    (s.doLoadContext slot ws).windowsOk := by
  have replied : ∀ code value, (s.reply slot code value).windowsOk := fun code value =>
    State.windowsOk_congr (s.reply_frame slot code value).2.1 (.inr id) (fun h => by simp [State.head]) ok
  unfold State.doLoadContext
  dsimp only
  split
  case h_2 => exact replied _ _
  case h_1 h c _ _ =>
    split
    case isTrue => exact replied _ _
    case isFalse =>
      split
      case isTrue => exact replied _ _
      case isFalse free =>
        split
        case isTrue => exact replied _ _
        case isFalse =>
          exact State.windowsOk_setCtxSlot (s := s) (h := h) (n := c) (x := { state := .loading, words := [] }) rfl rfl
            (Nat.zero_lt_succ _) (fun active valid => free ⟨active, valid⟩) (.inr ⟨slot, _, rfl, rfl⟩) ok

theorem State.windowsOk_contextWordRead {s : State} (w : Word) (ok : s.windowsOk) : (s.contextWordRead w).windowsOk := by
  unfold State.contextWordRead
  split
  case h_2 => exact ok
  case h_1 slot h c addr k loading =>
    obtain ⟨state, length⟩ := ok.2.1 slot h c addr k loading
    have short : ((s.store h).slot c).words.length < Config.contextWords := by
      have slot_ok := ok.1 h c
      rw [CtxSlot.ok, state] at slot_ok
      exact slot_ok
    have words_length : (((s.store h).slot c).words ++ [w]).length = k + 1 := by
      rw [List.length_append, length]
      rfl
    have not_valid : c = (s.store h).active → ((s.store h).slot c).state ≠ .valid := fun _ valid => by
      rw [state] at valid
      cases valid
    dsimp only
    split
    case isTrue more =>
      exact State.windowsOk_setCtxSlot (s := s) (h := h) (n := c)
        (x := { state := .loading, words := ((s.store h).slot c).words ++ [w] }) rfl rfl
        (words_length.trans_lt more) not_valid (.inr ⟨slot, addr, by rw [words_length]; rfl, rfl⟩) ok
    case isFalse last =>
      have full : (((s.store h).slot c).words ++ [w]).length = Config.contextWords := by
        rw [words_length]
        rw [length] at short
        omega
      split
      case h_1 good =>
        exact State.windowsOk_setCtxSlot (s := s) (h := h) (n := c)
          (x := { state := .valid, words := ((s.store h).slot c).words ++ [w] }) rfl rfl ⟨full, good⟩ not_valid
          (.inl trivial) ok
      case h_2 =>
        exact State.windowsOk_setCtxSlot (s := s) (h := h) (n := c) (x := .invalid) rfl rfl rfl not_valid
          (.inl trivial) ok

theorem State.windowsOk_contextFailed {s : State} (ok : s.windowsOk) : s.contextFailed.windowsOk := by
  unfold State.contextFailed
  split
  case h_2 => exact ok
  case h_1 slot h c addr k loading =>
    obtain ⟨state, _⟩ := ok.2.1 slot h c addr k loading
    exact State.windowsOk_setCtxSlot (s := s) (h := h) (n := c) (x := .invalid) rfl rfl rfl
      (fun _ valid => by rw [state] at valid; cases valid) (.inl trivial) ok

/-- SWITCH CONTEXT records its slot at the store, and changes no context slot (R64). -/
theorem State.windowsOk_doSwitchContext {s : State} (slot : SlotNo) (ws : List Word) (ok : s.windowsOk) :
    (s.doSwitchContext slot ws).windowsOk := by
  have replied : ∀ code value, (s.reply slot code value).windowsOk := fun code value =>
    State.windowsOk_congr (s.reply_frame slot code value).2.1 (.inr id) (fun h => by simp [State.head]) ok
  unfold State.doSwitchContext
  dsimp only
  split
  case h_2 => exact replied _ _
  case h_1 h _ =>
    split
    case isTrue => exact replied _ _
    case isFalse =>
      split
      case isTrue => exact replied _ _
      case isFalse =>
        have slots : s.sameSlots (s.setStore h { s.store h with switchPending := some slot }) :=
          State.sameSlots_of_set rfl fun n => by cases n <;> rfl
        refine State.windowsOk_of_slots slots (.inr id) (fun k => ?_) ok
        refine Nat.lt_of_lt_of_eq (ok.2.2 k) (State.windowLength_congr ?_ (slots k _)).symm
        show ((s.setStore h _).store k).active = _
        rw [State.store_setStore]
        split
        case isTrue here => rw [here]
        case isFalse => rfl

/-- The ends of accesses, but for those of a context load and SWITCH CONTEXT, change no context store. -/
theorem Completion.ctx {u : Purpose} {live : State → State} (completes : Completion u live) (t : State) :
    (live t).ctx = t.ctx ∨ (∃ slot ws, live t = (t.joinOutstanding slot).doLoadContext slot ws) ∨
      (∃ slot ws, live t = (t.joinOutstanding slot).doSwitchContext slot ws) ∨
      (∃ w, live t = t.contextWordRead w) ∨ live t = t.contextFailed := by
  cases completes with
  | contextWordRead w => exact .inr (.inr (.inr (.inl ⟨w, rfl⟩)))
  | contextFailed => exact .inr (.inr (.inr (.inr rfl)))
  | takenDone kind k =>
    beta_reduce
    unfold State.takenDone
    split
    case h_2 => exact .inl rfl
    case h_1 slot ws _ =>
      cases k with
      | none => exact .inl (by simp [State.serve])
      | some k =>
        cases k with
        | loadContext => exact .inr (.inl ⟨slot, ws, rfl⟩)
        | switchContext => exact .inr (.inr (.inl ⟨slot, ws, rfl⟩))
        | _ => exact .inl (by simp [State.serve])
  | takenFailed => exact .inl (by beta_reduce; unfold State.takenFailed; split <;> simp)
  | _ => exact .inl (by simp)

theorem Completion.windowCount {u : Purpose} {live : State → State} (completes : Completion u live) (t : State)
    (h : Head) : ((live t).head h).windowCount = (t.head h).windowCount := by
  rcases completes.heads t with same | ⟨k, pending, waiting, changed⟩
  · rw [State.head, same]
    rfl
  · rw [State.head, changed, PerHead.get_set]
    split
    case isTrue here => rw [here]
    case isFalse => rfl

/-- After the end of an access that changes no context store the engine reads a context block only if it did before. -/
theorem Completion.sameBlock {u : Purpose} {live : State → State} (completes : Completion u live) (t : State) :
    t.engine.work.sameBlock (live t).engine.work ∨ (∃ slot ws, live t = (t.joinOutstanding slot).doLoadContext slot ws) ∨
      ∃ w, live t = t.contextWordRead w := by
  rcases completes.work t with work | quiet | starts
  · exact .inl (.inl work)
  · refine .inl (.inr fun loads => ?_)
    generalize (live t).engine.work = v at quiet loads
    cases v with
    | loading => exact quiet
    | _ => exact loads
  · generalize live t = t' at starts
    cases starts with
    | loadContext slot ws => exact .inr (.inl ⟨slot, ws, rfl⟩)
    | contextWordRead w => exact .inr (.inr ⟨w, rfl⟩)
    | armPen slot ws =>
      refine .inl (.inr fun loads => ?_)
      unfold State.doArmPen at loads
      (repeat' split at loads) <;> exact loads
    | fenceWordRead w =>
      refine .inl ?_
      unfold State.fenceWordRead
      split
      case h_2 => exact .inl rfl
      case h_1 =>
        refine .inr fun loads => ?_
        dsimp only at loads
        (repeat' split at loads) <;> exact loads

theorem State.windowsOk_completion {u : Purpose} {live : State → State} (completes : Completion u live) {t : State}
    (ok : t.windowsOk) : (live t).windowsOk := by
  have load : ∀ slot ws, ((t.joinOutstanding slot).doLoadContext slot ws).windowsOk := fun slot ws =>
    State.windowsOk_doLoadContext slot ws
      (State.windowsOk_congr (t.joinOutstanding_frame slot).2.1 (.inr id) (fun h => by simp [State.head]) ok)
  rcases completes.ctx t with same | ⟨slot, ws, eq⟩ | ⟨slot, ws, eq⟩ | ⟨w, eq⟩ | eq
  · rcases completes.sameBlock t with work | ⟨slot, ws, eq⟩ | ⟨w, eq⟩
    · exact State.windowsOk_congr same work (completes.windowCount t) ok
    · exact eq ▸ load slot ws
    · exact eq ▸ State.windowsOk_contextWordRead w ok
  · exact eq ▸ load slot ws
  · exact eq ▸ State.windowsOk_doSwitchContext slot ws
      (State.windowsOk_congr (t.joinOutstanding_frame slot).2.1 (.inr id) (fun h => by simp [State.head]) ok)
  · exact eq ▸ State.windowsOk_contextWordRead w ok
  · exact eq ▸ State.windowsOk_contextFailed ok

theorem CtxSlot.ok_stop {x : CtxSlot} (ok : x.ok) : x.stop.ok := by
  unfold CtxSlot.stop
  split
  case isTrue => rfl
  case isFalse => exact ok

/-- A stop makes a LOADING slot INVALID, which is no longer window than it had (R69). -/
theorem State.windowsOk_stopped {s : State} (ok : s.windowsOk) : s.stopped.windowsOk := by
  have head : ∀ h, s.stopped.head h = (s.head h).runStop := fun h => PerHead.get_map _ _ h
  have store : ∀ h, s.stopped.store h = (s.store h).stop := fun h => PerHead.get_map _ _ h
  have slot_ok : ∀ h n, ((s.stopped.store h).slot n).ok := fun h n => by
    rw [store, CtxStore.slot_stop]
    exact CtxSlot.ok_stop (ok.1 h n)
  refine ⟨slot_ok, fun _ _ _ _ _ loading => (by cases loading), fun h => ?_⟩
  rw [head, HeadRx.runStop]
  split
  case isFalse => exact State.one_le_windowLength (slot_ok h _)
  case isTrue =>
    refine Nat.lt_of_lt_of_eq (ok.2.2 h) ?_
    rw [State.windowLength_eq, State.windowLength_eq, store, CtxStore.slot_stop]
    show _ = if (((s.store h).slot (s.store h).active).stop).state = .valid then
      ctxN (((s.store h).slot (s.store h).active).stop).words else 1
    unfold CtxSlot.stop
    by_cases loading : ((s.store h).slot (s.store h).active).state = .loading
    · rw [if_pos loading, loading]
      rfl
    · rw [if_neg loading]

theorem windowsOk_keptByBlocks : KeptByBlocks State.windowsOk where
  regs _ _ _ ok := ok
  scan _ _ _ ok := ok
  idle _ ok := ok
  granted _ _ _ _ ok := ok
  clearPen _ _ _ ok := ok
  highTaken s slot addr clear k hi hi' _ ok :=
    State.windowsOk_congr (s := s) rfl (.inr id) (fun _ => rfl) ok
  receiver s h y own ok := State.windowsOk_congr (s := s) rfl (.inl rfl)
    (fun k => by
      rw [State.head_setHead]
      split
      case isTrue here => rw [own.windowCount, here]
      case isFalse => rfl) ok
  frameStart s h _ ok := State.windowsOk_frameStart ok
  syncFrameStart s h _ ok :=
    State.windowsOk_of_head (s.syncFrameStart_heads h) (s.syncFrameStart_ctx h) (CtxStore.slot_switched _)
      (s.syncFrameStart_work h) (.inl (HeadRx.applyPending_windowCount _)) ok
  loseLink s h ok := State.windowsOk_congr (s.loseLink_ctx h) (.inl (s.loseLink_work h))
    (fun k => by
      rw [State.head, s.loseLink_heads h]
      split
      case isFalse => rfl
      case isTrue =>
        rw [PerHead.get_set]
        split
        case isTrue here => rw [here]; rfl
        case isFalse => rfl) ok
  disableHead s h ok := by
    have heads := s.disableHead_heads h
    have ctx := s.disableHead_ctx h
    have work := s.disableHead_work h
    split at heads
    case isTrue off =>
      rw [if_pos off] at ctx
      exact State.windowsOk_congr ctx (.inl work) (fun k => by rw [State.head, heads]; rfl) ok
    case isFalse on =>
      rw [if_neg on] at ctx
      exact State.windowsOk_of_head heads ctx (fun n => by cases n <;> rfl) work (.inl rfl) ok
  pulse s p ok := State.windowsOk_congr (s.pulse_frame p).2.1 (.inl (by simp)) (fun h => by simp [State.head]) ok
  tipCloses _ _ ok := ok
  tipOpens s p ok := State.windowsOk_congr (s.tipOpens_frame p).2.1 (.inl (by simp)) (fun h => by simp [State.head]) ok
  stopped _ ok := State.windowsOk_stopped ok
  resetBlocks s anchor port _ _ := by
    refine ⟨fun h n => ?_, fun _ _ _ _ _ loading => (by cases loading), fun h => ?_⟩
    · rw [State.store_resetBlocks]
      cases n <;> rfl
    · rw [State.head_resetBlocks, State.windowLength_eq, State.store_resetBlocks]
      exact Nat.one_pos
  closedSeq _ _ ok := ok
  completion s a live _ _ completes ok := State.windowsOk_completion completes (t := s.setPort none) ok

/-- Settles O55: a slot changes only as its load does, and a head's count is tested against the window it stands in, or is 0
where that window may have changed. -/
theorem windowsKept : Obligations.WindowsKept :=
  fun _ _ ok stepped => step_keeps windowsOk_keptByBlocks.commands ok stepped

end Sys2Proof.Machine
end

section
/-! PROOF. The pen channels' operations by the few updates they are made of, and the head receivers' by what they do at the
pens. -/

namespace Sys2Proof.Machine

open Sys2Proof

@[simp] theorem Calibration.judge_slot (c : Calibration) : c.judge.slot = c.slot := by
  unfold Calibration.judge
  dsimp only
  (repeat' split) <;> rfl

@[simp] theorem Calibration.hit_slot (c : Calibration) (fwd rev : Option Target) (h : Nat) (saturated : Bool) :
    (c.hit fwd rev h saturated).slot = c.slot := by
  unfold Calibration.hit
  (repeat' split) <;> rfl

theorem State.ite_keeps {I : State → Prop} {b : Prop} [Decidable b] {t u : State} (yes : I t) (no : I u) :
    I (if b then t else u) := by
  split
  case isTrue => exact yes
  case isFalse => exact no

/-- A property of states that survives each update that a pen channel's operations are made of. A pen's own parts may change
freely, but for the slot of its calibration. -/
structure KeptByPens (I : State → Prop) : Prop where
  pen : ∀ s p x, x.calib.map (·.slot) = (s.pen p).calib.map (·.slot) → I s → I (s.setPen p x)
  stage : ∀ s p record, I s → I (s.stage p record)
  dropAwaitOn : ∀ s h p, I s → I (s.dropAwaitOn h p)
  endCentreAccess : ∀ s p, I s → I (s.endCentreAccess p)
  flush : ∀ s p next, I s → I (s.flush p next)
  boundary : ∀ s p, I s → I (s.reportBoundary p)
  endCalibration : ∀ s p c k code value, (s.pen p).calib = some c → k.slot = c.slot → I s →
    I (s.endCalibration p k code value)
  confirmed : ∀ s p h b btn frame, (s.menu h).load = none → (s.menu h).table[b]? = some btn → I s →
    I (s.setMenu h ((s.menu h).confirmed p b btn frame).1)
  pagesTaken : ∀ s p pg, s.port = none → I s → I (s.takePages p pg)
  pagesHeld : ∀ s p pg, I s → I (s.setReport p { s.report p with pendingPages := some pg })

namespace KeptByPens

variable {I : State → Prop} (kept : KeptByPens I) {s : State}
include kept

/-- A change of a pen's own parts beside its calibration. -/
theorem own (p : Pen) {x : PenChannel} (calib : x.calib = (s.pen p).calib) (ok : I s) : I (s.setPen p x) :=
  kept.pen s p x (by rw [calib]) ok

theorem count (p : Pen) (f : PenCounters → PenCounters) (ok : I s) : I (s.count p f) := kept.own p rfl ok

theorem clearWindow (p : Pen) (ok : I s) : I (s.clearWindow p) := kept.own p rfl ok

theorem clearRun (p : Pen) (ok : I s) : I (s.clearRun p) := kept.own p rfl ok

theorem endArm (p : Pen) (ok : I s) : I (s.endArm p) :=
  kept.own p rfl (kept.endCentreAccess _ p (kept.dropAwaitOn _ .B p (kept.dropAwaitOn _ .A p
    (kept.clearRun p (kept.clearWindow p ok)))))

theorem disarm (p : Pen) (ok : I s) : I (s.disarm p) := kept.flush _ p none (kept.own p rfl (kept.endArm p ok))

theorem arm (rq : ArmRequest) (fence : Option Fence) (idle : s.port = none) (ok : I s) : I (s.arm rq fence) := by
  unfold State.arm
  refine kept.own _ rfl ?_
  split
  case isTrue => exact kept.flush _ _ _ (kept.endArm _ ok)
  case isFalse =>
    split
    case isTrue => exact kept.pagesHeld _ _ _ ok
    case isFalse => exact kept.pagesTaken _ _ _ idle ok

/-! ### Windows -/

theorem drawingHit (t : ClassifiedHit) (ok : I s) : I (s.drawingHit t) := by
  unfold State.drawingHit
  dsimp only
  split
  case isTrue => exact kept.count _ _ ok
  case isFalse =>
    split
    case h_1 => exact kept.own _ rfl ok
    case h_2 => exact kept.count _ _ (kept.own _ rfl ok)

theorem decision (p : Pen) (reason : CloseReason) (frame : Long) (ok : I s) : I (s.decision p reason frame) := by
  unfold State.decision
  dsimp only
  split
  case h_1 => exact kept.clearWindow p (kept.count p _ ok)
  case h_2 =>
    have staged : ∀ record, I ((s.stage p record).clearWindow p) := fun record =>
      kept.clearWindow p (kept.stage _ p record ok)
    split
    case isTrue => exact kept.disarm p (staged _)
    case isFalse => exact staged _

theorem idleJudgement (p : Pen) (frame : Long) (ok : I s) : I (s.idleJudgement p frame) := by
  unfold State.idleJudgement
  dsimp only
  split
  case h_1 => exact ok
  case h_2 =>
    split
    case isTrue => exact ok
    case isFalse =>
      split
      case isTrue => exact ok
      case isFalse =>
        split
        case isTrue => exact kept.decision p _ _ (kept.own p rfl ok)
        case isFalse => exact kept.own p rfl ok

theorem windowRelease (p : Pen) (ok : I s) : I (s.windowRelease p) := by
  unfold State.windowRelease
  dsimp only
  split
  case isTrue => exact kept.decision p _ _ ok
  case isFalse => exact ok

theorem windowAbort (p : Pen) (reason : LossCause) (ok : I s) : I (s.windowAbort p reason) := by
  unfold State.windowAbort
  refine kept.clearWindow p ?_
  split
  case isTrue => exact ok
  case isFalse => exact kept.stage _ p _ ok

/-! ### The cross -/

theorem deadBandTest (p : Pen) (ws : List Word) (frame : Long) (ok : I s) : I (s.deadBandTest p ws frame) := by
  unfold State.deadBandTest
  dsimp only
  split
  case isTrue => exact kept.own p rfl (kept.stage _ p _ ok)
  case isFalse => exact ok

theorem averageX (p : Pen) (ws : List Word) (frame : Long) (ok : I s) : I (s.averageX p ws frame) :=
  kept.deadBandTest p ws frame (kept.own p rfl ok)

theorem averageY (p : Pen) (ws : List Word) (frame : Long) (ok : I s) : I (s.averageY p ws frame) :=
  kept.deadBandTest p ws frame (kept.own p rfl ok)

theorem ownArmHit (arm : Nat) (t : ClassifiedHit) (ok : I s) : I (s.ownArmHit arm t) := by
  unfold State.ownArmHit
  dsimp only
  split
  case isTrue => exact kept.count _ _ ok
  case isFalse =>
    split
    case isTrue =>
      split
      case isTrue => exact kept.averageX _ _ _ (kept.own _ rfl ok)
      case isFalse => exact kept.own _ rfl ok
    case isFalse =>
      split
      case isTrue => exact kept.averageY _ _ _ (kept.own _ rfl ok)
      case isFalse => exact kept.own _ rfl ok

theorem trackLoss (p : Pen) (cause : LossCause) (frame : Long) (ok : I s) : I (s.trackLoss p cause frame) :=
  kept.own p rfl (kept.stage _ p _ ok)

theorem missJudgement (p : Pen) (frame : Long) (ok : I s) : I (s.missJudgement p frame) := by
  unfold State.missJudgement
  dsimp only
  split
  case h_1 => exact ok
  case h_2 =>
    split
    case isTrue => exact ok
    case isFalse =>
      split
      case isTrue => exact ok
      case isFalse =>
        split
        case isTrue => exact kept.trackLoss p _ _ (kept.own p rfl ok)
        case isFalse => exact kept.own p rfl ok

theorem trackRelease (p : Pen) (ok : I s) : I (s.trackRelease p) := by
  unfold State.trackRelease
  dsimp only
  split
  case isTrue => exact ok
  case isFalse =>
    split
    case isTrue => exact kept.disarm p (kept.own p rfl (kept.stage _ p _ ok))
    case isFalse => exact kept.own p rfl (kept.stage _ p _ ok)

theorem trackAbort (p : Pen) (cause : LossCause) (ok : I s) : I (s.trackAbort p cause) := by
  unfold State.trackAbort
  dsimp only
  split
  case isTrue => exact kept.trackLoss p _ _ ok
  case isFalse => exact kept.own p rfl ok

/-! ### Menus -/

theorem confirm (p : Pen) (b : Nat) (btn : Button) (frame : Long) (no_load : (s.menu (s.penHead p)).load = none)
    (button : (s.menu (s.penHead p)).table[b]? = some btn) (ok : I s) : I (s.confirm p b btn frame) := by
  have confirmed := kept.confirmed (s.clearWindow p) p (s.penHead p) b btn frame no_load button (kept.clearWindow p ok)
  have escaped : ∀ t, I t → I (if btn.kind = .escape ∧ (t.pen p).opts.mode = .track then
      t.setPen p { t.pen p with track := (t.pen p).track.escape } else t) := fun t ok => by
    split
    case isTrue => exact kept.own p rfl ok
    case isFalse => exact ok
  unfold State.confirm
  dsimp only
  split
  case h_1 => exact kept.stage _ p _ (escaped _ confirmed)
  case h_2 => exact escaped _ confirmed

theorem menuHit (t : ClassifiedHit) (ok : I s) : I (s.menuHit t) := by
  unfold State.menuHit
  dsimp only
  split
  case isTrue => exact kept.count _ _ ok
  case isFalse loads =>
    split
    case h_1 => exact kept.count _ _ ok
    case h_2 b _ =>
      split
      case h_1 => exact kept.count _ _ ok
      case h_2 btn button =>
        split
        case isTrue => exact kept.own _ rfl ok
        case isFalse =>
          split
          case isFalse => exact kept.own _ rfl ok
          case isTrue =>
            refine kept.confirm _ _ _ _ ?_ ?_ (kept.own _ rfl ok)
            · simp only [State.penHead, State.pen_setPen_self, State.menu_setPen]
              exact Option.not_isSome_iff_eq_none.1 loads
            · simp only [State.penHead, State.pen_setPen_self, State.menu_setPen]
              exact button

theorem runJudgement (p : Pen) (frame : Long) (ok : I s) : I (s.runJudgement p frame) := kept.own p rfl ok

/-! ### Calibration -/

theorem calibrationJudgement (p : Pen) (ok : I s) : I (s.calibrationJudgement p) := by
  unfold State.calibrationJudgement
  split
  case h_1 => exact ok
  case h_2 c measuring =>
    dsimp only
    split
    case isTrue =>
      split
      case isTrue => exact kept.endCalibration _ p c _ _ _ measuring c.judge_slot ok
      case isFalse =>
        refine kept.endCalibration _ p c _ _ _ ?_ c.judge_slot (kept.own p rfl ok)
        rw [State.pen_setPen_self]
        exact measuring
    case isFalse =>
      split
      case isTrue => exact kept.endCalibration _ p c _ _ _ measuring c.judge_slot ok
      case isFalse => exact kept.pen s p _ (by rw [measuring]; exact congrArg some c.judge_slot) ok

theorem disturb (p : Pen) (ok : I s) : I (s.disturb p) := by
  unfold State.disturb
  split
  case h_1 c _ measuring => exact kept.endCalibration _ p c _ _ _ measuring rfl ok
  case h_2 => exact ok

/-! ### What the heads signal -/

theorem judgePen (p : Pen) (frame : Long) (boundary : Bool) (ok : I s) : I (s.judgePen p frame boundary) := by
  have idle : I (if (s.pen p).state = .armed ∧ (s.pen p).opts.mode = .pick ∧ ¬ boundary then s.idleJudgement p frame
      else s) := State.ite_keeps (kept.idleJudgement p frame ok) ok
  have run := kept.runJudgement p frame idle
  have miss : I (if (s.pen p).state = .armed ∧ (s.pen p).opts.mode = .track then _ else _) :=
    State.ite_keeps (kept.missJudgement p frame run) run
  exact State.ite_keeps (kept.calibrationJudgement p miss) miss

theorem closeAtBoundary (p : Pen) (frame : Long) (ok : I s) : I (s.closeAtBoundary p frame) := by
  unfold State.closeAtBoundary
  dsimp only
  split
  case isTrue => exact kept.decision p _ _ ok
  case isFalse => exact ok

theorem markHeld (p : Pen) (held : Bool) (ok : I s) : I (s.markHeld p held) := by
  unfold State.markHeld
  dsimp only
  split
  case isTrue => exact kept.disturb p (kept.own p rfl ok)
  case isFalse => exact kept.own p rfl ok

theorem signalPen (frame : Long) (boundary held sync : Bool) (p : Pen) (ok : I s) :
    I (State.signalPen frame boundary held sync s p) := by
  have judged : I (if ¬ (s.pen p).heldMark ∧ ¬ sync then s.judgePen p frame boundary else s) :=
    State.ite_keeps (kept.judgePen p frame boundary ok) ok
  have closed : I (if boundary = true then _ else _) := State.ite_keeps (kept.closeAtBoundary p frame judged) judged
  have taken : I (if (s.pen p).state = .disarmed then s else _) := State.ite_keeps ok (kept.markHeld p held closed)
  exact State.ite_keeps (kept.boundary _ p taken) taken

theorem switchPen (p : Pen) (ok : I s) : I (s.switchPen p) := by
  unfold State.switchPen
  dsimp only
  split
  case isTrue =>
    split
    case isTrue => exact kept.own p rfl (kept.clearRun p (kept.disturb p ok))
    case isFalse => exact kept.clearRun p (kept.disturb p ok)
  case isFalse => exact kept.disturb p ok

theorem penLoss (cause : LossCause) (p : Pen) (ok : I s) : I (State.penLoss cause s p) := by
  unfold State.penLoss
  dsimp only
  have marked : I ((s.disturb p).setPen p { (s.disturb p).pen p with deadMark := none }) :=
    kept.own p rfl (kept.disturb p ok)
  split
  case isTrue => exact marked
  case isFalse =>
    have cleared := kept.clearRun p (kept.windowAbort p cause marked)
    split
    case isTrue => exact kept.trackAbort p cause cleared
    case isFalse => exact cleared

/-! ### Pulses and the tip -/

theorem deliverHit (t : ClassifiedHit) (ok : I s) : I (s.deliverHit t) := by
  unfold State.deliverHit
  split
  case h_1 => exact kept.drawingHit t ok
  case h_2 => exact kept.menuHit t ok
  case h_3 => exact kept.ownArmHit _ t ok
  case h_4 => exact kept.count _ _ ok

theorem takeHit (p : Pen) (h : Nat) (saturated : Bool) (frame : Long) (ok : I s) : I (s.takeHit p h saturated frame) := by
  unfold State.takeHit
  dsimp only
  split
  case isTrue => exact kept.count _ _ ok
  case isFalse =>
    split
    case isTrue =>
      refine kept.pen s p _ ?_ ok
      rw [Option.map_map]
      exact congrArg (fun f => Option.map f _) (funext fun c => Calibration.hit_slot c _ _ h saturated)
    case isFalse =>
      split
      case h_1 => exact kept.count _ _ ok
      case h_2 =>
        unfold State.armedHit
        dsimp only
        split
        case h_1 => exact kept.own p rfl (kept.count p _ ok)
        case h_2 => exact kept.deliverHit _ ok

theorem pulse (p : Pen) (ok : I s) : I (s.pulse p) := by
  unfold State.pulse
  dsimp only
  split
  case isTrue => exact ok
  case isFalse =>
    split
    case isTrue => exact ok
    case isFalse => exact kept.takeHit p _ _ _ (kept.count p _ (kept.own p rfl ok))

theorem tipCloses (p : Pen) (ok : I s) : I (s.tipCloses p) := kept.own p rfl ok

theorem tipOpens (p : Pen) (ok : I s) : I (s.tipOpens p) := by
  have opened : I (s.setPen p { s.pen p with tipClosed := false }) := kept.own p rfl ok
  unfold State.tipOpens
  dsimp only
  split
  case h_1 => exact kept.windowRelease p opened
  case h_2 => exact kept.trackRelease p opened
  case h_3 => exact opened
  case h_4 => exact opened

end KeptByPens

/-! ## What the heads do at the pens -/

/-- A property of states that does not look at receivers, context stores, registers, results or scans, and that survives what the
heads do at the pens. -/
structure KeptAtPens (I : State → Prop) : Prop where
  same : ∀ s t : State, t.pens = s.pens → t.menus = s.menus → t.reports = s.reports → t.port = s.port →
    t.engine.work = s.engine.work → I s → I t
  signalPen : ∀ s p frame boundary held sync, I s → I (State.signalPen frame boundary held sync s p)
  switchPen : ∀ s p, I s → I (s.switchPen p)
  penLoss : ∀ s p cause, I s → I (State.penLoss cause s p)

namespace KeptAtPens

variable {I : State → Prop} (kept : KeptAtPens I) {s : State}
include kept

theorem answer (slot : SlotNo) (code value : Word) (ok : I s) : I (s.answer slot code value) :=
  kept.same s _ rfl rfl rfl rfl rfl ok

theorem scanEvent (ok : I s) : I (s.setEngine { s.engine with scanPending := true }) :=
  kept.same s _ rfl rfl rfl rfl rfl ok

theorem boundarySwitch (h : Head) (ok : I s) : I (s.boundarySwitch h) := by
  unfold State.boundarySwitch
  split
  case h_1 => exact ok
  case h_2 =>
    refine kept.answer _ _ _ (State.forPensOn_induct (fun t p _ ok => kept.switchPen t p ok) ?_)
    exact kept.same s _ rfl rfl rfl rfl rfl ok

theorem abortSwitch (h : Head) (ok : I s) : I (s.abortSwitch h) := by
  unfold State.abortSwitch
  split
  case h_1 => exact ok
  case h_2 => exact kept.answer _ _ _ (kept.same s _ rfl rfl rfl rfl rfl ok)

theorem frameSignal (h : Head) (boundary sync : Bool) (ok : I s) : I (s.frameSignal h boundary sync) := by
  have waiting : I ((s.setHead h (s.head h).applyPending).answerWaiting (s.head h)) :=
    kept.same s _ (by simp) (by simp) (by simp) (by simp) (by simp) ok
  have signalled : I (s.signalled h boundary sync) :=
    State.forPensOn_induct (fun t p _ ok => kept.signalPen t p _ _ _ _ ok) waiting
  rw [State.frameSignal_eq]
  exact kept.scanEvent (State.ite_keeps (kept.boundarySwitch h signalled) signalled)

theorem frameStart (h : Head) (ok : I s) : I (s.frameStart h) :=
  kept.frameSignal h _ _ (kept.same s _ rfl rfl rfl rfl rfl ok)

theorem syncFrameStart (h : Head) (ok : I s) : I (s.syncFrameStart h) :=
  kept.frameSignal h _ _ (kept.same s _ rfl rfl rfl rfl rfl ok)

theorem loseLink (h : Head) (ok : I s) : I (s.loseLink h) := by
  unfold State.loseLink
  dsimp only
  split
  case isFalse => exact ok
  case isTrue =>
    exact State.forPensOn_induct (fun t p _ ok => kept.penLoss t p _ ok) (kept.same s _ rfl rfl rfl rfl rfl ok)

theorem disableHead (h : Head) (ok : I s) : I (s.disableHead h) := by
  unfold State.disableHead
  dsimp only
  split
  case isTrue => exact ok
  case isFalse =>
    have off : I (s.setHead h (s.head h).disable) := kept.same s _ rfl rfl rfl rfl rfl ok
    refine kept.abortSwitch h (State.forPensOn_induct (fun t p _ ok => kept.penLoss t p .disable ok) ?_)
    split
    case h_1 => exact State.ite_keeps (kept.answer _ _ _ off) (kept.answer _ _ _ off)
    case h_2 => exact off

end KeptAtPens

end Sys2Proof.Machine
end

section
/-! PROOF. What the menu unit's operations keep of a unit in order (R107, R110, R113, R126). -/

namespace Sys2Proof.Machine

open Sys2Proof

/-! ## Button tables -/

/-- A button with its state left out. -/
def Button.unset (b : Button) : Button := { b with state := false }

/-- A table that a menu unit may hold: at most 24 buttons of distinct tags, each in range (R107, R111). -/
def tableFits (table : List Button) : Prop :=
  table.length ≤ Config.maxButtons ∧ table.Pairwise (fun a b => a.tag ≠ b.tag) ∧ ∀ b ∈ table, b.fits

/-- Whether a table fits does not depend on the states of its buttons. -/
theorem tableFits_of_unset {old new : List Button} (same : new.map Button.unset = old.map Button.unset)
    (ok : tableFits old) : tableFits new := by
  have length : new.length = old.length := by simpa using congrArg List.length same
  have tags : ∀ l : List Button, l.Pairwise (fun a b => a.tag ≠ b.tag) ↔
      (l.map Button.unset).Pairwise (fun a b => a.tag ≠ b.tag) := fun l => by rw [List.pairwise_map]; rfl
  have fits : ∀ l : List Button, (∀ b ∈ l, b.fits) ↔ ∀ b ∈ l.map Button.unset, b.fits := fun l => by rw [List.forall_mem_map]; rfl
  obtain ⟨short, distinct, in_range⟩ := ok
  refine ⟨length ▸ short, ?_, ?_⟩
  · rw [tags, same, ← tags]
    exact distinct
  · rw [fits, same, ← fits]
    exact in_range

theorem map_unset_toggleState (b i : Nat) (table : List Button) :
    (toggleState b i table).map Button.unset = table.map Button.unset := by
  induction table generalizing i with
  | nil => rfl
  | cons c cs ih =>
    rw [toggleState, List.map_cons, List.map_cons, ih]
    split <;> rfl

theorem map_unset_chooseStates (b g i : Nat) (table : List Button) :
    (chooseStates b g i table).map Button.unset = table.map Button.unset := by
  induction table generalizing i with
  | nil => rfl
  | cons c cs ih =>
    rw [chooseStates, List.map_cons, List.map_cons, ih]
    split
    · rfl
    · split <;> rfl

/-- A table whose words pass R111 fits, whatever its length. -/
theorem buttonsOf_fits {words : List Word} {seen table : List Button} (parsed : buttonsOf seen words = some table)
    (distinct : seen.Pairwise (fun a b => a.tag ≠ b.tag)) (fits : ∀ b ∈ seen, b.fits) :
    table.Pairwise (fun a b => a.tag ≠ b.tag) ∧ (∀ b ∈ table, b.fits) ∧
      4 * table.length = 4 * seen.length + words.length := by
  fun_induction buttonsOf seen words with
  | case1 seen =>
    cases parsed
    exact ⟨distinct, fits, rfl⟩
  | case2 => cases parsed
  | case3 => cases parsed
  | case4 seen tag kind action state rest b _ accepted ih =>
    simp only [Bool.or_eq_true, decide_eq_true_eq, List.any_eq_true, beq_iff_eq, Bool.and_eq_true, not_or, not_exists,
      not_and, Nat.not_lt, Nat.not_le] at accepted
    obtain ⟨⟨tag_range, new⟩, target⟩ := accepted
    have distinct' : (seen ++ [b]).Pairwise (fun a b => a.tag ≠ b.tag) := by
      refine List.pairwise_append.2 ⟨distinct, .cons (fun _ none => absurd none List.not_mem_nil) .nil, ?_⟩
      intro c mem d last
      obtain rfl := List.mem_singleton.1 last
      exact new c mem
    have fits' : ∀ c ∈ seen ++ [b], c.fits := fun c mem => by
      rcases List.mem_append.1 mem with mem | mem
      · exact fits c mem
      · obtain rfl := List.mem_singleton.1 mem
        exact ⟨tag_range, target⟩
    obtain ⟨apart, all_fit, length⟩ := ih parsed distinct' fits'
    refine ⟨apart, all_fit, ?_⟩
    simp only [List.length_append, List.length_cons, List.length_nil] at length ⊢
    omega
  | case5 => cases parsed

/-! ## The dirty set -/

theorem insertDirty_sorted {i : Nat} {dirty : List Nat} (sorted : dirty.Pairwise (· < ·)) :
    (insertDirty i dirty).Pairwise (· < ·) := by
  induction dirty with
  | nil => exact .cons (fun _ none => absurd none List.not_mem_nil) .nil
  | cons j js ih =>
    obtain ⟨above, tail_sorted⟩ := List.pairwise_cons.1 sorted
    rw [insertDirty]
    split
    case isTrue first =>
      refine .cons (fun k mem => ?_) sorted
      rcases List.mem_cons.1 mem with rfl | mem
      · exact first
      · exact Nat.lt_trans first (above k mem)
    case isFalse later =>
      split
      case isTrue => exact sorted
      case isFalse other =>
        refine .cons (fun k mem => ?_) (ih tail_sorted)
        rcases mem_insertDirty.1 mem with mem | rfl
        · exact above k mem
        · omega

theorem foldl_insertDirty_sorted {joining dirty : List Nat} (sorted : dirty.Pairwise (· < ·)) :
    (joining.foldl (fun d i => insertDirty i d) dirty).Pairwise (· < ·) := by
  induction joining generalizing dirty with
  | nil => exact sorted
  | cons i is ih => exact ih (insertDirty_sorted sorted)

/-! ## Units in order -/

/-- A unit in order, its parts named. -/
structure MenuUnit.InOrder (m : MenuUnit) : Prop where
  table : tableFits m.table
  depth : m.stack.length ≤ Config.stackDepth
  pages : ∀ n ∈ m.stack, n < 16
  current : ∀ c, m.current = some c → c.number < 16
  sorted : m.dirty.Pairwise (· < ·)
  indices : ∀ i ∈ m.dirty, i < Config.maxButtons
  unstaged : m.load = none → m.staging = []
  load : ∀ l, m.load = some l →
    l.page < 16 ∧ (∀ w, l.origin = .backButton w → m.stack.length < Config.stackDepth) ∧ l.phase.stagingOk m.staging

namespace MenuUnit

variable {m : MenuUnit}

theorem ok_iff : m.ok ↔ m.InOrder := by
  constructor
  · rintro ⟨short, distinct, fits, depth, pages, current, sorted, indices, unstaged, load⟩
    exact ⟨⟨short, distinct, fits⟩, depth, pages, current, sorted, indices, unstaged, load⟩
  · rintro ⟨⟨short, distinct, fits⟩, depth, pages, current, sorted, indices, unstaged, load⟩
    exact ⟨short, distinct, fits, depth, pages, current, sorted, indices, unstaged, load⟩

theorem pageNumber_lt (ok : m.ok) : m.pageNumber < 16 := by
  unfold pageNumber
  split
  case h_1 c shown => exact (ok_iff.1 ok).current c shown
  case h_2 => exact Nat.zero_lt_succ _

theorem ok_retable {table : List Button} (same : table.map Button.unset = m.table.map Button.unset) (ok : m.ok) :
    (m.retable table).ok := by
  have old := ok_iff.1 ok
  refine ok_iff.2
    { old with
      table := tableFits_of_unset same old.table
      sorted := foldl_insertDirty_sorted old.sorted
      indices := fun i mem => ?_ }
  rcases mem_foldl_insertDirty.1 mem with mem | mem
  · exact old.indices i mem
  · obtain ⟨j, d, e, rfl, found, _⟩ := mem_changedStates.1 mem
    obtain ⟨below, _⟩ := List.getElem?_eq_some_iff.1 found
    have short := old.table.1
    omega

theorem ok_startLoad {page : Nat} {origin : LoadOrigin} (in_range : page < 16)
    (back : ∀ w, origin = .backButton w → m.stack.length < Config.stackDepth) (ok : m.ok) :
    (m.startLoad page origin).ok :=
  ok_iff.2
    { ok_iff.1 ok with
      unstaged := fun _ => rfl
      load := fun l loading => by
        cases loading
        exact ⟨in_range, back, rfl⟩ }

theorem ok_confirmed {p : Pen} {b : Nat} {btn : Button} {frame : Long} (no_load : m.load = none)
    (button : m.table[b]? = some btn) (ok : m.ok) : (m.confirmed p b btn frame).1.ok := by
  have old := ok_iff.1 ok
  have idle : ∀ stack : List Nat, stack.length ≤ Config.stackDepth → (∀ n ∈ stack, n < 16) → { m with stack := stack }.ok :=
    fun stack depth pages => ok_iff.2
      { old with
        depth := depth, pages := pages
        load := fun l loading => (by
          rw [show m.load = some l from loading] at no_load
          cases no_load) }
  unfold confirmed
  split
  case h_1 => exact ok
  case h_2 => exact ok
  case h_3 => exact ok_retable (map_unset_toggleState _ _ _) ok
  case h_4 => exact ok_retable (map_unset_chooseStates _ _ _ _) ok
  case h_5 is_page =>
    split
    case isTrue => exact ok
    case isFalse room =>
      have target : btn.target < 16 := (old.table.2.2 btn (List.mem_of_getElem? button)).2 is_page
      refine ok_startLoad target (fun w other => by cases other) (idle _ (Nat.lt_of_not_le room) fun n mem => ?_)
      rcases List.mem_cons.1 mem with rfl | mem
      · exact pageNumber_lt ok
      · exact old.pages n mem
  case h_6 =>
    split
    case h_1 => exact ok
    case h_2 top rest stack =>
      have depth : rest.length < Config.stackDepth := by
        have depth := old.depth
        rw [stack] at depth
        exact depth
      have pages : ∀ n ∈ top :: rest, n < 16 := stack ▸ old.pages
      exact ok_startLoad (pages top List.mem_cons_self) (fun _ _ => depth)
        (idle rest (Nat.le_of_lt depth) fun n mem => pages n (List.mem_cons_of_mem _ mem))

theorem ok_dropAwait (p : Pen) (ok : m.ok) :
    { m with load := m.load.map (fun l : PageLoad => { l with origin := l.origin.dropAwait p }) }.ok := by
  have old := ok_iff.1 ok
  refine ok_iff.2
    { old with
      unstaged := fun none_left => old.unstaged (Option.map_eq_none_iff.1 none_left)
      load := fun l loading => ?_ }
  obtain ⟨l', loading', rfl⟩ := Option.map_eq_some_iff.1 loading
  obtain ⟨page, back, staged⟩ := old.load l' loading'
  refine ⟨page, fun w origin => ?_, staged⟩
  obtain ⟨_, origin', _⟩ := l'
  cases origin' with
  | backButton w' => exact back w' rfl
  | setPage => cases origin
  | pageButton => cases origin

theorem undoStack_ok {l : PageLoad} (loading : m.load = some l) (ok : m.ok) :
    (undoStack l m.stack).length ≤ Config.stackDepth ∧ ∀ n ∈ undoStack l m.stack, n < 16 := by
  have old := ok_iff.1 ok
  obtain ⟨page, back, _⟩ := old.load l loading
  unfold undoStack
  split
  case h_1 => exact ⟨old.depth, old.pages⟩
  case h_2 =>
    exact ⟨Nat.le_trans (List.drop_sublist 1 m.stack).length_le old.depth,
      fun n mem => old.pages n (List.mem_of_mem_drop mem)⟩
  case h_3 w origin =>
    refine ⟨back w origin, fun n mem => ?_⟩
    rcases List.mem_cons.1 mem with rfl | mem
    · exact page
    · exact old.pages n mem

theorem ok_loadFailed {l : PageLoad} (loading : m.load = some l) (ok : m.ok) :
    { m with stack := undoStack l m.stack, load := none, staging := [] }.ok := by
  obtain ⟨depth, pages⟩ := undoStack_ok loading ok
  exact ok_iff.2
    { ok_iff.1 ok with
      depth := depth, pages := pages, unstaged := fun _ => rfl, load := fun l none_left => by cases none_left }

theorem ok_stop (ok : m.ok) : m.stop.ok := by
  have old := ok_iff.1 ok
  have stack : m.stop.stack.length ≤ Config.stackDepth ∧ ∀ n ∈ m.stop.stack, n < 16 := by
    unfold stop
    cases loading : m.load with
    | none => exact ⟨old.depth, old.pages⟩
    | some l => exact undoStack_ok loading ok
  exact ok_iff.2
    { old with
      depth := stack.1, pages := stack.2, sorted := .nil, indices := fun i none => absurd none List.not_mem_nil
      unstaged := fun _ => rfl, load := fun l none_left => by cases none_left }

theorem ok_loadDone {l : PageLoad} {addr : Nat} {table : List Button} (loading : m.load = some l) (fits : tableFits table)
    {stack : List Nat} (emptied : stack = [] ∨ stack = m.stack) (ok : m.ok) :
    { m with
      table := table, current := some { number := l.page, addr := addr }, stack := stack, load := none
      staging := [] }.ok := by
  have old := ok_iff.1 ok
  obtain ⟨page, _, _⟩ := old.load l loading
  have stack_ok : stack.length ≤ Config.stackDepth ∧ ∀ n ∈ stack, n < 16 := by
    rcases emptied with rfl | rfl
    · exact ⟨Nat.zero_le _, fun n none => absurd none List.not_mem_nil⟩
    · exact ⟨old.depth, old.pages⟩
  exact ok_iff.2
    { old with
      table := fits, depth := stack_ok.1, pages := stack_ok.2
      current := fun c shown => by
        cases shown
        exact page
      unstaged := fun _ => rfl, load := fun l none_left => by cases none_left }

theorem ok_loadPhase {l : PageLoad} {ph : LoadPhase} {staging : List Word} (loading : m.load = some l)
    (staged : ph.stagingOk staging) (ok : m.ok) : { m with load := some { l with phase := ph }, staging := staging }.ok := by
  have old := ok_iff.1 ok
  obtain ⟨page, back, _⟩ := old.load l loading
  exact ok_iff.2
    { old with
      unstaged := fun none_left => by cases none_left
      load := fun l' eq => by
        cases eq
        exact ⟨page, back, staged⟩ }

theorem ok_filter_dirty (f : Nat → Bool) (ok : m.ok) : { m with dirty := m.dirty.filter f }.ok :=
  ok_iff.2
    { ok_iff.1 ok with
      sorted := (ok_iff.1 ok).sorted.sublist List.filter_sublist
      indices := fun i mem => (ok_iff.1 ok).indices i (List.mem_of_mem_filter mem) }

theorem ok_writtenBack (i : Nat) (v : Bool) (ok : m.ok) : (m.writtenBack i v).ok := by
  unfold writtenBack
  split
  case isTrue => exact ok_filter_dirty _ ok
  case isFalse => exact ok

end MenuUnit

end Sys2Proof.Machine
end

section
/-! PROOF. Properties of the menu units and the report paths through every command; every step keeps the menu units in order
(R107, R110). -/

namespace Sys2Proof.Machine

open Sys2Proof

/-! ## Menu units through the ends of accesses -/

/-- The page stack that a completed load leaves; a SET MENU PAGE may empty it (R112). -/
def PageLoad.finalStack (l : PageLoad) (stack : List Nat) : List Nat :=
  match l.origin with
  | .setPage _ true => []
  | _ => stack

/-- The unit as a completed load leaves it (R112). -/
def MenuUnit.loaded (m : MenuUnit) (l : PageLoad) (addr : Nat) (table : List Button) : MenuUnit :=
  { m with
    table := table, current := some { number := l.page, addr := addr }, stack := l.finalStack m.stack, load := none
    staging := [] }

/-- Runs and lockouts of the head's pens that are not DISARMED are cleared (R112). -/
def State.clearRuns (s : State) (h : Head) : State :=
  s.forPensOn h (fun t p => if (t.pen p).state = .disarmed then t else t.clearRun p)

theorem State.loadDone_eq (s : State) (h : Head) (l : PageLoad) (addr : Nat) (table : List Button) :
    s.loadDone h l addr table =
      ((s.setMenu h ((s.menu h).loaded l addr table)).clearRuns h).answerLoad h l codeOK .done := by
  unfold State.loadDone State.clearRuns MenuUnit.loaded PageLoad.finalStack
  cases l.origin with
  | setPage slot clear => cases clear <;> rfl
  | pageButton => rfl
  | backButton => rfl

theorem PageLoad.finalStack_cases (l : PageLoad) (stack : List Nat) :
    l.finalStack stack = [] ∨ l.finalStack stack = stack := by
  unfold PageLoad.finalStack
  split
  · exact .inl rfl
  · exact .inr rfl

/-- A word read by a page load changes the unit within its order, and may hand on the load's origin (R110 to R113). -/
inductive LoadStep (s : State) (h : Head) : State → Prop
  | rests : LoadStep s h s
  | phase (m : MenuUnit) : ((s.menu h).ok → m.ok) → m.servedSlot = (s.menu h).servedSlot → LoadStep s h (s.setMenu h m)
  | failed (l : PageLoad) (code : Word) (status : MenuStatus) : (s.menu h).load = some l →
      LoadStep s h (s.loadFailed h l code status)
  | done (l : PageLoad) (addr : Nat) (table : List Button) : (s.menu h).load = some l →
      ((s.menu h).ok → tableFits table) → LoadStep s h (s.loadDone h l addr table)

theorem tableFits_nil : tableFits [] := ⟨Nat.zero_le _, .nil, fun _ mem => absurd mem List.not_mem_nil⟩

theorem MenuUnit.servedSlot_of_load {m m' : MenuUnit} {l l' : PageLoad} (old : m.load = some l) (new : m'.load = some l')
    (origin : l'.origin = l.origin) : m'.servedSlot = m.servedSlot := by
  simp only [MenuUnit.servedSlot, old, new, origin]

theorem State.loadRead_step (s : State) (h : Head) (w : Word) : LoadStep s h (s.loadRead h w) := by
  have phase : ∀ l ph, (s.menu h).load = some l → ((s.menu h).ok → ph.stagingOk (s.menu h).staging) →
      LoadStep s h (s.loadPhase h l ph) := fun l ph loading staged =>
    .phase _ (fun ok => MenuUnit.ok_loadPhase loading (staged ok) ok)
      (MenuUnit.servedSlot_of_load loading (m' := { s.menu h with load := some { l with phase := ph } }) rfl rfl)
  unfold State.loadRead
  dsimp only
  split
  case h_1 => exact .rests
  case h_2 l loading =>
    have staged : (s.menu h).ok → l.phase.stagingOk (s.menu h).staging := fun ok =>
      ((MenuUnit.ok_iff.1 ok).load l loading).2.2
    split
    case h_1 now =>
      rw [now] at staged
      exact phase l _ loading staged
    case h_2 now =>
      rw [now] at staged
      split
      case isTrue => exact phase l _ loading staged
      case isFalse => exact .failed l _ _ loading
    case h_3 now =>
      rw [now] at staged
      exact phase l _ loading staged
    case h_4 now =>
      rw [now] at staged
      split
      case isTrue => exact phase l _ loading staged
      case isFalse => exact .failed l _ _ loading
    case h_5 now =>
      rw [now] at staged
      split
      case isTrue => exact .failed l _ _ loading
      case isFalse few =>
        split
        case isTrue => exact .done l _ _ loading fun _ => tableFits_nil
        case isFalse some_buttons =>
          refine phase l _ loading fun ok => ⟨Nat.pos_of_ne_zero some_buttons, Nat.le_of_not_lt few, ?_⟩
          rw [staged ok, List.length_nil]
          omega
    case h_6 addr n now =>
      rw [now] at staged
      split
      case isTrue more =>
        refine .phase _ (fun ok => ?_) rfl
        obtain ⟨pos, few, _⟩ := staged ok
        have staged' : l.phase.stagingOk ((s.menu h).staging ++ [w]) := by
          rw [now]
          exact ⟨pos, few, more⟩
        have next := MenuUnit.ok_loadPhase (ph := l.phase) loading staged' ok
        rw [show some { l with phase := l.phase } = (s.menu h).load from loading.symm] at next
        exact next
      case isFalse last =>
        split
        case h_1 table parsed =>
          refine .done l _ _ loading fun ok => ?_
          obtain ⟨_, few, short⟩ := staged ok
          obtain ⟨distinct, fits, length⟩ :=
            buttonsOf_fits parsed .nil fun _ mem => absurd mem List.not_mem_nil
          refine ⟨?_, distinct, fits⟩
          simp only [List.length_append, List.length_cons, List.length_nil] at length last
          omega
        case h_2 => exact .failed l _ _ loading

theorem State.loadBusError_step (s : State) (h : Head) : LoadStep s h (s.loadBusError h) := by
  unfold State.loadBusError
  split
  case h_1 l loading => exact .failed l _ _ loading
  case h_2 => exact .rests

/-! ## Properties of the menu units and the report paths -/

/-- A property of states that looks at the menu units, the report paths and the port alone, with what it must survive. The menu
units may change in any way that keeps them in order. -/
structure KeptByMenusAndPaths (I : State → Prop) : Prop where
  same : ∀ s t : State, t.menus = s.menus → t.reports = s.reports → t.port = s.port → I s → I t
  menu : ∀ s h m, ((s.menu h).ok → m.ok) → I s → I (s.setMenu h m)
  idle : ∀ s, I s → I (s.setPort none)
  granted : ∀ s a, s.port = none → s.firstWaiting = some a → I s → I (s.setPort (some a))
  endCentreAccess : ∀ s p, I s → I (s.endCentreAccess p)
  stage : ∀ s p record, I s → I (s.stage p record)
  flush : ∀ s p next, I s → I (s.flush p next)
  boundary : ∀ s p, I s → I (s.reportBoundary p)
  pagesTaken : ∀ s p pg, s.port = none → I s → I (s.takePages p pg)
  pagesHeld : ∀ s p pg, I s → I (s.setReport p { s.report p with pendingPages := some pg })
  pageRead : ∀ s p w, s.port = none → I s → I (s.pageRead p w)
  recordWritten : ∀ s a p k, s.port = some a → a.purpose = .recordWord p k → a.delivery = .live → I s →
    I ((s.setPort none).recordWritten p k)
  headerWritten : ∀ s p k, s.port = none → I s → I (s.headerWritten p k)
  pageFault : ∀ s p, s.port = none → I s → I (s.pageFault p)
  closedSeq : ∀ s p, I s → I (s.setReport p { s.report p with seq := (s.report p).seq + 1 })
  stopped : ∀ s, I s → I s.stopped
  resetBlocks : ∀ s anchor port, (∀ a, port = some a → a.delivery = .dropped) → I s → I (s.resetBlocks anchor port)

namespace KeptByMenusAndPaths

variable {I : State → Prop} (kept : KeptByMenusAndPaths I) {s : State}
include kept

theorem pens : KeptByPens I where
  pen s p x _ ok := kept.same s _ rfl rfl rfl ok
  stage := kept.stage
  dropAwaitOn s h p ok := kept.menu s h _ (MenuUnit.ok_dropAwait p) ok
  endCentreAccess := kept.endCentreAccess
  flush := kept.flush
  boundary := kept.boundary
  endCalibration s p c k code value _ _ ok :=
    kept.same s _ (s.endCalibration_frame p k code value).2.2.1 (s.endCalibration_frame p k code value).2.2.2.1
      (s.endCalibration_frame p k code value).2.2.2.2.1 ok
  confirmed s p h b btn frame no_load button ok := kept.menu s h _ (MenuUnit.ok_confirmed no_load button) ok
  pagesTaken := kept.pagesTaken
  pagesHeld := kept.pagesHeld

theorem heads : KeptAtPens I where
  same s t _ menus reports port _ ok := kept.same s t menus reports port ok
  signalPen s p frame boundary held sync ok := kept.pens.signalPen frame boundary held sync p ok
  switchPen s p ok := kept.pens.switchPen p ok
  penLoss s p cause ok := kept.pens.penLoss cause p ok

theorem reply (slot : SlotNo) (code value : Word) (ok : I s) : I (s.reply slot code value) :=
  kept.same s _ rfl rfl rfl ok

theorem setEngine (e : Engine) (ok : I s) : I (s.setEngine e) := kept.same s _ rfl rfl rfl ok

/-! ### Page loads -/

theorem answerLoad (h : Head) (l : PageLoad) (code : Word) (status : MenuStatus) (ok : I s) :
    I (s.answerLoad h l code status) := by
  unfold State.answerLoad
  split
  case h_1 => exact kept.heads.answer _ _ _ ok
  case h_2 => exact kept.stage _ _ _ ok
  case h_3 => exact kept.stage _ _ _ ok
  case h_4 => exact ok
  case h_5 => exact ok

theorem loadStep {h : Head} {t : State} (stepped : LoadStep s h t) (ok : I s) : I t := by
  cases stepped with
  | rests => exact ok
  | phase m fine => exact kept.menu s h m fine ok
  | failed l code status loading =>
    exact kept.answerLoad h l code status (kept.menu s h _ (MenuUnit.ok_loadFailed loading) ok)
  | done l addr table loading fits =>
    rw [State.loadDone_eq]
    refine kept.answerLoad h l codeOK .done
      (State.forPensOn_induct (fun t p _ ok => State.ite_keeps ok (kept.pens.clearRun p ok)) (kept.menu s h _ ?_ ok))
    exact fun unit_ok => MenuUnit.ok_loadDone loading (fits unit_ok) (l.finalStack_cases _) unit_ok

/-! ### Requests -/

theorem doArmPen (slot : SlotNo) (ws : List Word) (idle : s.port = none) (ok : I s) : I (s.doArmPen slot ws) := by
  unfold State.doArmPen
  split
  case h_1 => exact kept.reply _ _ _ ok
  case h_2 rq _ =>
    split
    case isTrue => exact kept.reply _ _ _ ok
    case isFalse =>
      split
      case h_1 => exact kept.reply _ _ _ (kept.pens.arm rq none idle ok)
      case h_2 => exact kept.same s _ rfl rfl rfl ok

theorem fenceWordRead (w : Word) (idle : s.port = none) (ok : I s) : I (s.fenceWordRead w) := by
  unfold State.fenceWordRead
  split
  case h_2 => exact ok
  case h_1 =>
    dsimp only
    split
    case isTrue => exact kept.same s _ rfl rfl rfl ok
    case isFalse =>
      split
      case h_1 rq f _ _ => exact kept.reply _ _ _ (kept.pens.arm rq (some f) idle ok)
      case h_2 => exact kept.reply _ _ _ ok

theorem doDisarmPen (slot : SlotNo) (ws : List Word) (ok : I s) : I (s.doDisarmPen slot ws) := by
  unfold State.doDisarmPen
  split
  case h_1 => exact kept.reply _ _ _ ok
  case h_2 p _ =>
    exact kept.reply _ _ _ (State.ite_keeps (kept.pens.disarm p (kept.pens.disturb p ok)) (kept.pens.disturb p ok))

theorem doSetMenuPage (slot : SlotNo) (ws : List Word) (ok : I s) : I (s.doSetMenuPage slot ws) := by
  unfold State.doSetMenuPage
  dsimp only
  split
  case h_1 => exact kept.reply _ _ _ ok
  case h_2 h _ =>
    split
    case isTrue => exact kept.reply _ _ _ ok
    case isFalse =>
      split
      case isTrue => exact kept.reply _ _ _ ok
      case isFalse in_range =>
        split
        case isTrue => exact kept.reply _ _ _ ok
        case isFalse =>
          refine kept.setEngine _ (kept.menu s h _ (fun unit_ok => ?_) ok)
          exact MenuUnit.ok_startLoad (Nat.lt_of_not_le in_range) (fun w other => by cases other) unit_ok

theorem serve (k : Option Kind) (slot : SlotNo) (ws : List Word) (idle : s.port = none) (ok : I s) :
    I (s.serve k slot ws) := by
  have untouched : ∀ t : State, t.menus = s.menus ∧ t.reports = s.reports ∧ t.port = s.port → I t :=
    fun t ⟨menus, reports, port⟩ => kept.same s t menus reports port ok
  cases k with
  | none => exact kept.reply _ _ _ ok
  | some k =>
    cases k with
    | armPen => exact kept.doArmPen slot ws idle ok
    | disarmPen => exact kept.doDisarmPen slot ws ok
    | setMenuPage => exact kept.doSetMenuPage slot ws ok
    | loadContext => exact untouched _ (by simp [State.serve])
    | switchContext => exact untouched _ (by simp [State.serve])
    | moveCross => exact untouched _ (by simp [State.serve])
    | calibratePen => exact untouched _ (by simp [State.serve])
    | holdHead => exact untouched _ (by simp [State.serve])
    | releaseHead => exact untouched _ (by simp [State.serve])
    | readCounters => exact untouched _ (by simp [State.serve])

theorem completion {a : Access} {live : State → State} (granted : s.port = some a) (delivery : a.delivery = .live)
    (completes : Completion a.purpose live) (ok : I s) : I (live (s.setPort none)) := by
  have rests := kept.idle s ok
  have untouched : ∀ t : State, t.menus = (s.setPort none).menus ∧ t.reports = (s.setPort none).reports ∧
      t.port = (s.setPort none).port → I t := fun t ⟨menus, reports, port⟩ => kept.same _ t menus reports port rests
  generalize purpose : a.purpose = u at completes
  cases completes with
  | pageRead p w => exact kept.pageRead _ p w rfl rests
  | recordWritten p k => exact kept.recordWritten s a p k granted purpose delivery ok
  | headerWritten p k => exact kept.headerWritten _ p k rfl rests
  | pageFault u p => exact kept.pageFault _ p rfl rests
  | loadRead h w => exact kept.loadStep (State.loadRead_step _ h w) rests
  | loadBusError h => exact kept.loadStep (State.loadBusError_step _ h) rests
  | writtenBack h i v => exact kept.menu _ h _ (MenuUnit.ok_writtenBack i v) rests
  | writeBackFailed h i v => exact kept.menu _ h _ (MenuUnit.ok_filter_dirty _) rests
  | fenceWordRead w => exact kept.fenceWordRead w rfl rests
  | takenDone kind k =>
    beta_reduce
    unfold State.takenDone
    split
    case h_1 slot ws _ => exact kept.serve k slot ws rfl (kept.setEngine _ rests)
    case h_2 => exact rests
  | takenFailed =>
    beta_reduce
    unfold State.takenFailed
    split
    case h_1 => exact kept.setEngine _ rests
    case h_2 => exact rests
  | _ => exact untouched _ (by simp)

theorem blocks : KeptByBlocks I where
  regs s _ _ ok := kept.same s _ rfl rfl rfl ok
  scan s _ _ ok := kept.same s _ rfl rfl rfl ok
  idle := kept.idle
  granted := kept.granted
  clearPen s _ _ ok := kept.same s _ rfl rfl rfl ok
  highTaken s _ _ _ _ _ _ _ ok := kept.same s _ rfl rfl rfl ok
  receiver s _ _ _ ok := kept.same s _ rfl rfl rfl ok
  frameStart s h _ ok := kept.heads.frameStart h ok
  syncFrameStart s h _ ok := kept.heads.syncFrameStart h ok
  loseLink s h ok := kept.heads.loseLink h ok
  disableHead s h ok := kept.heads.disableHead h ok
  pulse s p ok := kept.pens.pulse p ok
  tipCloses s p ok := kept.pens.tipCloses p ok
  tipOpens s p ok := kept.pens.tipOpens p ok
  stopped := kept.stopped
  resetBlocks := kept.resetBlocks
  closedSeq := kept.closedSeq
  completion s a live granted delivery completes ok := kept.completion granted delivery completes ok

end KeptByMenusAndPaths

/-! ## The menu units -/

theorem State.menusOk_of_menus {s t : State} (same : t.menus = s.menus) (ok : s.menusOk) : t.menusOk := by
  intro h
  rw [State.menu, same]
  exact ok h

theorem MenuUnit.ok_reset : MenuUnit.reset.ok :=
  MenuUnit.ok_iff.2
    { table := tableFits_nil, depth := Nat.zero_le _, pages := fun _ mem => absurd mem List.not_mem_nil
      current := fun _ shown => (by cases shown), sorted := .nil, indices := fun _ mem => absurd mem List.not_mem_nil
      unstaged := fun _ => rfl, load := fun _ loading => by cases loading }

theorem menusOk_kept : KeptByMenusAndPaths State.menusOk where
  same _ _ menus _ _ ok := State.menusOk_of_menus menus ok
  menu s h m fine ok := by
    intro k
    rw [State.menu_setMenu]
    split
    case isTrue here => exact fine (ok h)
    case isFalse => exact ok k
  idle _ ok := ok
  granted _ _ _ _ ok := ok
  endCentreAccess s p ok := State.menusOk_of_menus (by simp) ok
  stage s p record ok := State.menusOk_of_menus (by simp) ok
  flush s p next ok := State.menusOk_of_menus (by simp) ok
  boundary s p ok := State.menusOk_of_menus (by simp) ok
  pagesTaken s p pg _ ok := State.menusOk_of_menus (by simp) ok
  pagesHeld _ _ _ ok := ok
  pageRead s p w _ ok := State.menusOk_of_menus (by simp) ok
  recordWritten s a p k _ _ _ ok := State.menusOk_of_menus (s := s) (by simp) ok
  headerWritten s p k _ ok := State.menusOk_of_menus (by simp) ok
  pageFault s p _ ok := State.menusOk_of_menus (by simp) ok
  closedSeq _ _ ok := ok
  stopped s ok := by
    intro h
    show ((s.menus.map MenuUnit.stop).get h).ok
    rw [PerHead.get_map]
    exact MenuUnit.ok_stop (ok h)
  resetBlocks s anchor port _ _ := by
    intro h
    rw [s.menu_resetBlocks anchor port h]
    exact MenuUnit.ok_reset

/-- Settles O57: each change of a menu unit keeps it in order, and no other block changes one. -/
theorem menusKept : Obligations.MenusKept :=
  fun _ _ ok stepped => step_keeps menusOk_kept.blocks.commands ok stepped

end Sys2Proof.Machine
end

section
/-! PROOF. Every step keeps the report queues, marks and fill counts in range (R152, R154, R156, R160). -/

namespace Sys2Proof.Machine

open Sys2Proof

/-! ## Report paths in order -/

/-- A path in order, its parts named. -/
structure ReportPath.InOrder (r : ReportPath) : Prop where
  short : r.queue.length ≤ Config.queueSize
  unkept : r.out = .none ∨ r.out = .stalled ∨ r.out = .fault → r.queue = []
  fill : r.fill ≤ Config.pageRecords
  room : r.out = .owned → r.fill < Config.pageRecords
  mark : r.markCount ≤ r.queue.length
  lost : ∀ c, r.lostRecord = some c → r.out = .owned ∧ r.fill = 0
  flushed : r.out = .owned → r.mark = some { kind := .flush, count := 0 } → r.lostRecord.isSome

/-- An owned path before it looks at what to do next (R156, R157, R160). -/
structure ReportPath.Ready (r : ReportPath) : Prop where
  owned : r.out = .owned
  short : r.queue.length ≤ Config.queueSize
  fill : r.fill ≤ Config.pageRecords
  mark : r.markCount ≤ r.queue.length
  lost : ∀ c, r.lostRecord = some c → r.fill = 0

/-- The path owns its page and has a record to write. -/
def ReportPath.writing (r : ReportPath) : Prop := r.out = .owned ∧ r.nextRecord.isSome

namespace ReportPath

variable {r : ReportPath}

theorem ok_iff : r.ok ↔ r.InOrder := by
  constructor
  · rintro ⟨short, unkept, fill, room, mark, lost, flushed⟩
    exact ⟨short, unkept, fill, room, mark, lost, flushed⟩
  · rintro ⟨short, unkept, fill, room, mark, lost, flushed⟩
    exact ⟨short, unkept, fill, room, mark, lost, flushed⟩

theorem InOrder.ready (ok : r.InOrder) (owned : r.out = .owned) : r.Ready :=
  ⟨owned, ok.short, ok.fill, ok.mark, fun c lost => (ok.lost c lost).2⟩

/-- A path with an empty queue, no mark and no LOST record that owns no page is in order. -/
theorem ok_of_empty (queue : r.queue = []) (mark : r.mark = none) (fill : r.fill = 0) (lost : r.lostRecord = none)
    (out : r.out ≠ .owned) : r.ok :=
  ok_iff.2
    { short := by rw [queue]; exact Nat.zero_le _
      unkept := fun _ => queue
      fill := by rw [fill]; exact Nat.zero_le _
      room := fun owned => absurd owned out
      mark := by rw [markCount, mark]; exact Nat.zero_le _
      lost := fun c formed => by rw [lost] at formed; cases formed
      flushed := fun owned => absurd owned out }

theorem ok_endFlush (short : r.queue.length ≤ Config.queueSize) : r.endFlush.1.ok := by
  unfold endFlush
  split
  case h_2 => exact ok_of_empty rfl rfl rfl rfl (fun owned => by cases owned)
  case h_1 pg _ =>
    exact ok_iff.2
      { short := short
        unkept := fun out => by rcases out with out | out | out <;> cases out
        fill := Nat.zero_le _
        room := fun owned => by cases owned
        mark := Nat.zero_le _
        lost := fun c formed => by cases formed
        flushed := fun owned => by cases owned }

theorem ok_startClose (short : r.queue.length ≤ Config.queueSize) (fill : r.fill ≤ Config.pageRecords)
    (mark : r.markCount ≤ r.queue.length) (lost : r.lostRecord = none) : r.startClose.ok :=
  ok_iff.2
    { short := short
      unkept := fun out => by rcases out with out | out | out <;> cases out
      fill := fill
      room := fun owned => by cases owned
      mark := mark
      lost := fun c formed => by rw [show r.lostRecord = some c from formed] at lost; cases lost
      flushed := fun owned => by cases owned }

theorem Ready.ok (ready : r.Ready) (room : r.fill < Config.pageRecords)
    (flushed : r.mark = some { kind := .flush, count := 0 } → r.lostRecord.isSome) : r.ok :=
  ok_iff.2
    { short := ready.short
      unkept := fun out => by rw [ready.owned] at out; rcases out with out | out | out <;> cases out
      fill := ready.fill
      room := fun _ => room
      mark := ready.mark
      lost := fun c formed => ⟨ready.owned, ready.lost c formed⟩
      flushed := fun _ => flushed }

/-- What an owned path does next leaves it in order: it closes a full page, and a flush with nothing left to write ends or closes. -/
theorem Ready.ok_ownedNext (ready : r.Ready) : r.ownedNext.1.ok := by
  unfold ownedNext
  split
  case h_1 c formed => exact ready.ok (by rw [ready.lost c formed]; decide) fun _ => by rw [formed]; rfl
  case h_2 lost =>
    have close : r.startClose.ok := ok_startClose ready.short ready.fill ready.mark lost
    split
    case h_1 k mark =>
      split
      case isTrue =>
        split
        case isTrue => exact ok_endFlush ready.short
        case isFalse => exact close
      case isFalse left =>
        split
        case isTrue =>
          refine ok_startClose ?_ ready.fill (Nat.zero_le _) lost
          show (r.queue.drop k).length ≤ _
          exact Nat.le_trans (List.drop_sublist k r.queue).length_le ready.short
        case isFalse room =>
          refine ready.ok (Nat.lt_of_not_le room) fun empty => ?_
          rw [mark] at empty
          cases empty
          exact absurd rfl left
    case h_2 k mark =>
      split
      case isTrue => exact close
      case isFalse goes_on =>
        refine ready.ok (Nat.lt_of_not_le fun full => goes_on (.inr full)) fun empty => ?_
        rw [mark] at empty
        cases empty
    case h_3 mark =>
      split
      case isTrue => exact close
      case isFalse room =>
        refine ready.ok (Nat.lt_of_not_le room) fun empty => ?_
        rw [mark] at empty
        cases empty

/-- An owned path that has a record to write, room for it and a mark that counts it goes on writing. -/
theorem ownedNext_eq_self (room : r.fill < Config.pageRecords)
    (counted : r.lostRecord.isSome ∨ ∀ m, r.mark = some m → m.count ≠ 0) : r.ownedNext = (r, false) := by
  unfold ownedNext
  split
  case h_1 => rfl
  case h_2 lost =>
    have counted : ∀ m, r.mark = some m → m.count ≠ 0 := counted.resolve_left (by rw [lost]; exact Bool.false_ne_true)
    split
    case h_1 k mark => rw [if_neg (counted _ mark), if_neg (Nat.not_le_of_lt room)]
    case h_2 k mark => rw [if_neg fun closes => closes.elim (counted _ mark) (Nat.not_le_of_lt room)]
    case h_3 => rw [if_neg (Nat.not_le_of_lt room)]

/-! ### The operations -/

theorem ready_owned (short : r.queue.length ≤ Config.queueSize) (mark : r.markCount ≤ r.queue.length) : r.owned.Ready :=
  ⟨rfl, short, Nat.zero_le _, mark, fun _ _ => rfl⟩

theorem ok_stage (record : Record) (ok : r.ok) : (r.stage record).1.ok := by
  have old := ok_iff.1 ok
  unfold stage
  split
  case isFalse => exact ok_iff.2 { old with }
  case isTrue accepting =>
    have room : r.queue.length < Config.queueSize ∧ ¬ (r.out = .none ∨ r.out = .stalled ∨ r.out = .fault) := by
      unfold accepts at accepting
      split at accepting
      case h_1 out => exact ⟨of_decide_eq_true accepting, by simp [out]⟩
      case h_2 out => exact ⟨of_decide_eq_true accepting, by simp [out]⟩
      case h_3 out => exact ⟨of_decide_eq_true accepting, by simp [out]⟩
      case h_4 => cases accepting
      case h_5 => cases accepting
      case h_6 => cases accepting
    refine ok_iff.2
      { old with
        short := ?_
        unkept := fun out => absurd out room.2
        mark := Nat.le_trans old.mark (List.sublist_append_left r.queue [record]).length_le }
    rw [List.length_append]
    exact room.1

theorem writing_stage (record : Record) (ok : r.writing) : (r.stage record).1.writing := by
  obtain ⟨owned, next⟩ := ok
  unfold stage
  split
  case isFalse => exact ⟨owned, next⟩
  case isTrue =>
    refine ⟨owned, ?_⟩
    unfold nextRecord at next ⊢
    cases formed : r.lostRecord with
    | some c => rfl
    | none =>
      rw [formed] at next
      cases queue : r.queue with
      | nil => rw [queue] at next; cases next
      | cons => rfl

theorem ok_turned (ok : r.ok) : r.turned.ok := by
  unfold turned
  split
  case isTrue => exact ok_iff.2 { ok_iff.1 ok with }
  case isFalse => exact ok

@[simp] theorem turned_out : r.turned.out = r.out := by
  unfold turned
  split <;> rfl

theorem ok_neededRead (w : Word) (out : r.out ≠ .owned) (ok : r.ok) : (r.neededRead w).1.ok := by
  have old := ok_iff.1 ok
  have owns := (ready_owned old.short old.mark).ok_ownedNext
  unfold neededRead
  split
  case isTrue =>
    split
    case isTrue => exact owns
    case isFalse =>
      refine ok_endFlush ?_
      show (r.queue.drop _).length ≤ _
      exact Nat.le_trans (List.drop_sublist _ r.queue).length_le old.short
  case isFalse =>
    split
    case isTrue => exact owns
    case isFalse =>
      refine ok_of_empty rfl rfl rfl ?_ (fun owned => by cases owned)
      cases formed : r.lostRecord with
      | none => exact formed
      | some c => exact absurd (old.lost c formed).1 out

theorem ok_pageRead (w : Word) (ok : r.ok) : (r.pageRead w).1.ok := by
  have old := ok_iff.1 ok
  have needed : r.out ≠ .owned → (r.turned.neededRead w).1.ok := fun out =>
    ok_neededRead w (by rw [turned_out]; exact out) (ok_turned ok)
  unfold pageRead
  split
  case h_1 =>
    split
    case isTrue => exact ok_endFlush old.short
    case isFalse =>
      split
      case isTrue => exact (ready_owned old.short old.mark).ok_ownedNext
      case isFalse => exact ok_iff.2 { old with }
  case h_2 out => exact needed (by rw [out]; exact Output.noConfusion)
  case h_3 out => exact needed (by rw [out]; exact Output.noConfusion)
  case h_4 => exact ok
  case h_5 => exact ok
  case h_6 => exact ok

theorem ready_recordDone (owned : r.out = .owned) (ok : r.ok) : r.recordDone.Ready := by
  have old := ok_iff.1 ok
  have room := old.room owned
  unfold recordDone
  split
  case h_1 => exact ⟨owned, old.short, room, old.mark, fun c formed => by cases formed⟩
  case h_2 lost =>
    refine ⟨owned, Nat.le_trans (List.drop_sublist 1 r.queue).length_le old.short, room, ?_, fun c formed => ?_⟩
    · have counted := old.mark
      simp only [markCount, List.length_drop] at counted ⊢
      cases mark : r.mark with
      | none => exact Nat.zero_le _
      | some m =>
        rw [mark] at counted
        exact Nat.sub_le_sub_right counted 1
    · rw [show r.lostRecord = some c from formed] at lost
      cases lost

theorem ok_recordWritten (k : Nat) (owned : r.out = .owned) (ok : r.ok) : (r.recordWritten k).1.ok := by
  unfold recordWritten
  split
  case isTrue => exact ok_iff.2 { ok_iff.1 ok with }
  case isFalse => exact (ready_recordDone owned ok).ok_ownedNext

theorem ok_closed (ok : r.ok) : r.closed.ok := by
  have old := ok_iff.1 ok
  have mark : r.closed.mark = r.mark ∨ r.closed.mark = none := by
    unfold closed
    split
    · exact .inl rfl
    · exact .inr rfl
  refine ok_iff.2 { old with mark := ?_, flushed := fun owned empty => ?_ }
  · rcases mark with same | gone
    · rw [markCount, same]
      exact old.mark
    · rw [markCount, gone]
      exact Nat.zero_le _
  · rcases mark with same | gone
    · exact old.flushed owned (same ▸ empty)
    · rw [gone] at empty
      cases empty

theorem ok_faulted : r.faulted.ok := ok_of_empty rfl rfl rfl rfl (fun owned => by cases owned)

theorem ok_pageFault : r.pageFault.1.ok := by
  unfold pageFault
  split
  case isTrue => exact ok_endFlush (Nat.zero_le _)
  case isFalse => exact ok_faulted

theorem ok_boundary (ok : r.ok) : r.boundary.1.ok := by
  have old := ok_iff.1 ok
  unfold boundary
  split
  case isTrue => exact ok
  case isFalse =>
    split
    case h_1 owned =>
      split
      case isTrue => exact Ready.ok_ownedNext { old.ready owned with mark := Nat.le_refl _ }
      case isFalse => exact ok
    case h_2 => exact ok_iff.2 { old with }
    case h_3 => exact ok
    case h_4 => exact ok
    case h_5 => exact ok
    case h_6 => exact ok

/-- A path that has a record to write goes on writing it where its mark counts its whole queue. -/
theorem writing_ownedNext {kind : MarkKind} (ok : r.ok) (writing : r.writing)
    (mark : r.mark = some { kind := kind, count := r.queue.length }) : r.ownedNext = (r, false) := by
  obtain ⟨owned, next⟩ := writing
  refine ownedNext_eq_self ((ok_iff.1 ok).room owned) ?_
  unfold nextRecord at next
  cases formed : r.lostRecord with
  | some c => exact .inl rfl
  | none =>
    rw [formed] at next
    refine .inr fun m marked => ?_
    rw [mark] at marked
    cases marked
    cases queue : r.queue with
    | nil => rw [queue] at next; cases next
    | cons => exact Nat.succ_ne_zero _

/-- A path with a record to write, whose queue is counted by a mark anew, still has it to write. -/
theorem writing_marked {kind : MarkKind} (pending : Option PageAddrs) (ok : r.ok) (writing : r.writing) :
    let marked := { r with mark := some ⟨kind, r.queue.length⟩, pendingPages := pending }
    marked.ownedNext = (marked, false) ∧ marked.writing := by
  obtain ⟨owned, next⟩ := writing
  refine ⟨ownedNext_eq_self ((ok_iff.1 ok).room owned) ?_, owned, next⟩
  unfold nextRecord at next
  cases formed : r.lostRecord with
  | some c => exact .inl rfl
  | none =>
    rw [formed] at next
    refine .inr fun m marked => ?_
    cases marked
    cases queue : r.queue with
    | nil => rw [queue] at next; cases next
    | cons => exact Nat.succ_ne_zero _

theorem writing_boundary (ok : r.ok) (writing : r.writing) : r.boundary.1.writing := by
  have marked := writing_marked (kind := .boundary) r.pendingPages ok writing
  unfold boundary
  split
  case isTrue => exact writing
  case isFalse =>
    split
    case h_1 =>
      split
      case isTrue => exact marked.1 ▸ marked.2
      case isFalse => exact writing
    all_goals exact writing

theorem ok_flushMarked (next : Option PageAddrs) (out : r.out ≠ .owned) (ok : r.ok) : (r.flushMarked next).ok :=
  ok_iff.2
    { ok_iff.1 ok with
      mark := Nat.le_refl _
      flushed := fun owned => absurd owned out }

theorem markCount_of_flushing (flushing : r.flushing = true) : r.mark = some ⟨.flush, r.markCount⟩ := by
  unfold ReportPath.flushing at flushing
  unfold markCount
  cases mark : r.mark with
  | none => rw [mark] at flushing; cases flushing
  | some m =>
    rw [mark] at flushing
    obtain ⟨kind, count⟩ := m
    rw [show kind = MarkKind.flush from of_decide_eq_true flushing]

theorem ok_flush (next : Option PageAddrs) (reading : Bool) (ok : r.ok) : (r.flush next reading).1.ok := by
  have old := ok_iff.1 ok
  have marked : r.out ≠ .owned → (r.flushMarked next).ok := fun out => ok_flushMarked next out ok
  have ends : ({ r with pendingPages := next }).endFlush.1.ok := ok_endFlush old.short
  unfold flush
  split
  case isTrue =>
    refine ok_iff.2
      { old with
        short := Nat.le_trans (List.take_sublist _ r.queue).length_le old.short
        unkept := fun out => ?_
        mark := ?_ }
    · show r.queue.take _ = []
      rw [old.unkept out, List.take_nil]
    · show r.markCount ≤ (r.queue.take r.markCount).length
      rw [List.length_take]
      exact Nat.le_min.2 ⟨Nat.le_refl _, old.mark⟩
  case isFalse =>
    split
    case h_1 owned => exact Ready.ok_ownedNext { old.ready owned with mark := Nat.le_refl _ }
    case h_2 out => exact marked (by rw [out]; exact Output.noConfusion)
    case h_3 out =>
      split
      case isTrue => exact ends
      case isFalse => exact marked (by rw [out]; exact Output.noConfusion)
    case h_4 out =>
      split
      case isTrue => exact marked (by rw [out]; exact Output.noConfusion)
      case isFalse => exact ends
    case h_5 => exact ends
    case h_6 => exact ends

theorem writing_flush (next : Option PageAddrs) (reading : Bool) (ok : r.ok) (writing : r.writing) :
    (r.flush next reading).1.writing := by
  have old := ok_iff.1 ok
  have marked := writing_marked (kind := .flush) next ok writing
  unfold flush
  split
  case isTrue flushing =>
    obtain ⟨owned, next_record⟩ := writing
    refine ⟨owned, ?_⟩
    have mark := markCount_of_flushing flushing
    unfold nextRecord at next_record ⊢
    dsimp only
    cases formed : r.lostRecord with
    | some c => simp [lose, formed]
    | none =>
      have left : r.markCount ≠ 0 := fun empty => by
        have lost := old.flushed owned (by rw [mark, empty])
        rw [formed] at lost
        cases lost
      rw [formed] at next_record
      simp only [lose, formed]
      cases queue : r.queue with
      | nil => rw [queue] at next_record; cases next_record
      | cons x xs =>
        obtain ⟨n, count⟩ := Nat.exists_eq_succ_of_ne_zero left
        rw [count]
        rfl
  case isFalse =>
    have owned := writing.1
    split
    case h_1 => exact marked.1 ▸ marked.2
    case h_2 out => rw [out] at owned; cases owned
    case h_3 out => rw [out] at owned; cases owned
    case h_4 out => rw [out] at owned; cases owned
    case h_5 out => rw [out] at owned; cases owned
    case h_6 out => rw [out] at owned; cases owned

theorem ok_stop : r.stop.ok := ok_of_empty rfl rfl rfl rfl (fun owned => by cases owned)

theorem ok_reset (lost : Counter) : (ReportPath.reset lost).ok :=
  ok_of_empty rfl rfl rfl rfl (fun owned => by cases owned)

end ReportPath

/-! ## All report paths -/

theorem Option.orElse_cases {α : Type} {x : Option α} {f : Unit → Option α} {a : α} (found : x.orElse f = some a) :
    x = some a ∨ f () = some a := by
  cases x with
  | none => exact .inr found
  | some => exact .inl found

/-- What the port grants is what its requester waits for (R178). -/
theorem State.firstWaiting_cases {s : State} {a : Access} (waits : s.firstWaiting = some a) :
    (∃ p, s.centreWaits p = some a) ∨ (∃ p, s.reportWaits p = some a) ∨ (∃ h, s.menuWaits h = some a) ∨
      s.engineWaits = some a := by
  have found : ∀ {α : Type} (l : List α) (f : α → Option Access), l.findSome? f = some a → ∃ x, f x = some a :=
    fun l f found => by
      obtain ⟨x, _, eq⟩ := List.exists_of_findSome?_eq_some found
      exact ⟨x, eq⟩
  rcases Option.orElse_cases waits with centre | waits
  · exact .inl (found _ _ centre)
  rcases Option.orElse_cases waits with report | waits
  · exact .inr (.inl (found _ _ report))
  rcases Option.orElse_cases waits with menu | waits
  · exact .inr (.inr (.inl (found _ _ menu)))
  · exact .inr (.inr (.inr waits))

/-- The purposes for which each class of requester waits. -/
theorem State.centreWaits_purpose {s : State} {p : Pen} {a : Access} (waits : s.centreWaits p = some a) :
    ∃ second, a.purpose = .centreWord p second := by
  unfold State.centreWaits at waits
  dsimp only at waits
  split at waits
  case h_1 => cases waits
  case h_2 => cases waits
  case h_3 => cases waits; exact ⟨_, rfl⟩
  case h_4 => cases waits; exact ⟨_, rfl⟩

theorem State.menuWaits_purpose {s : State} {h : Head} {a : Access} (waits : s.menuWaits h = some a) :
    a.purpose = .menuLoad h ∨ ∃ i v, a.purpose = .writeBack h i v := by
  unfold State.menuWaits at waits
  dsimp only at waits
  split at waits
  case h_1 =>
    cases waits
    exact .inr ⟨_, _, rfl⟩
  case h_2 => cases waits
  case h_3 =>
    obtain ⟨l, _, rfl⟩ := Option.map_eq_some_iff.1 waits
    exact .inl rfl

/-- The engine's accesses are no other requester's. -/
def Purpose.ofEngine : Purpose → Prop
  | .slotState _ | .slotWord | .taken _ | .fenceWord | .contextWord | .snapshotWord | .resultWord _ => True
  | .centreWord _ _ | .pageState _ | .recordWord _ _ | .headerWord _ _ | .menuLoad _ | .writeBack _ _ _ => False

theorem State.engineWaits_purpose {s : State} {a : Access} (waits : s.engineWaits = some a) : a.purpose.ofEngine := by
  unfold State.engineWaits at waits
  split at waits
  case h_1 =>
    cases waits
    unfold resultWrite
    split <;> trivial
  case h_2 =>
    unfold State.workWaits at waits
    dsimp only at waits
    split at waits
    case h_1 =>
      obtain ⟨q, _, rfl⟩ := Option.map_eq_some_iff.1 waits
      trivial
    all_goals
      cases waits
      trivial

/-- A record word is waited for by a path that owns its page and has a record to write. -/
theorem State.reportWaits_record {s : State} {p q : Pen} {a : Access} {k : Nat} (waits : s.reportWaits q = some a)
    (purpose : a.purpose = .recordWord p k) : q = p ∧ (s.report p).writing := by
  unfold State.reportWaits at waits
  dsimp only at waits
  split at waits
  case h_1 => cases waits
  case h_2 =>
    split at waits
    case h_1 =>
      cases waits
      cases purpose
    case h_2 owned =>
      obtain ⟨c, next, rfl⟩ := Option.map_eq_some_iff.1 waits
      cases purpose
      exact ⟨rfl, owned, by rw [next]; rfl⟩
    case h_3 =>
      split at waits
      case isTrue =>
        cases waits
        unfold headerWrite at purpose
        split at purpose <;> cases purpose
      case isFalse =>
        cases waits
        cases purpose
    case h_4 =>
      split at waits
      case isTrue =>
        cases waits
        cases purpose
      case isFalse => cases waits
    case h_5 => cases waits
    case h_6 => cases waits

theorem State.firstWaiting_record {s : State} {p : Pen} {a : Access} {k : Nat} (waits : s.firstWaiting = some a)
    (purpose : a.purpose = .recordWord p k) : (s.report p).writing := by
  rcases State.firstWaiting_cases waits with ⟨q, waits⟩ | ⟨q, waits⟩ | ⟨h, waits⟩ | waits
  · obtain ⟨second, other⟩ := State.centreWaits_purpose waits
    rw [purpose] at other
    cases other
  · exact (State.reportWaits_record waits purpose).2
  · rcases State.menuWaits_purpose waits with other | ⟨i, v, other⟩ <;> rw [purpose] at other <;> cases other
  · have other := State.engineWaits_purpose waits
    rw [purpose] at other
    exact other.elim

/-- The promise for one path, with the write that may be in flight for it. -/
theorem State.reportsOk_iff (s : State) :
    s.reportsOk ↔ ∀ p, (s.report p).ok ∧ (s.recordInFlight p → (s.report p).writing) := Iff.rfl

theorem State.reportsOk_of_put {s t : State} {p : Pen} {x : ReportPath × Bool} (changed : t.reports = s.reports.set p x.1)
    (flying : t.recordInFlight p → s.recordInFlight p) (others : ∀ q, t.recordInFlight q → s.recordInFlight q)
    (fine : (s.report p).ok → x.1.ok) (writes : (s.report p).ok → s.recordInFlight p → (s.report p).writing → x.1.writing)
    (ok : s.reportsOk) : t.reportsOk := by
  intro q
  have report : t.report q = if q = p then x.1 else s.report q := by
    rw [State.report, changed, PerPen.get_set]
    rfl
  by_cases here : q = p
  · subst here
    rw [if_pos rfl] at report
    rw [report]
    exact ⟨fine (ok q).1, fun record => writes (ok q).1 (flying record) ((ok q).2 (flying record))⟩
  · rw [if_neg here] at report
    rw [report]
    exact ⟨(ok q).1, fun record => (ok q).2 (others q record)⟩

/-- A path's operation while the port is idle. -/
theorem State.reportsOk_of_idle {s t : State} {p : Pen} {x : ReportPath × Bool} (changed : t = s.putReport p x)
    (idle : s.port = none) (fine : (s.report p).ok → x.1.ok) (ok : s.reportsOk) : t.reportsOk := by
  have rests : ∀ q, ¬ t.recordInFlight q := fun q ⟨a, k, granted, _⟩ => by
    rw [changed, State.putReport_port, idle] at granted
    cases granted
  exact State.reportsOk_of_put (t := t) (x := x) (by rw [changed]; rfl) (fun record => absurd record (rests p))
    (fun q record => absurd record (rests q)) fine (fun _ record _ => by
      obtain ⟨a, k, granted, _⟩ := record
      rw [idle] at granted
      cases granted) ok

/-- A path's operation whatever is in flight. -/
theorem State.reportsOk_of_path {s t : State} {p : Pen} {x : ReportPath × Bool} (changed : t = s.putReport p x)
    (fine : (s.report p).ok → x.1.ok) (writes : (s.report p).ok → (s.report p).writing → x.1.writing)
    (ok : s.reportsOk) : t.reportsOk := by
  subst changed
  exact State.reportsOk_of_put (x := x) rfl id (fun _ record => record) fine (fun fine _ => writes fine) ok

theorem State.reportsOk_of_same {s t : State} (reports : t.reports = s.reports)
    (flying : ∀ p, t.recordInFlight p → s.recordInFlight p) (ok : s.reportsOk) : t.reportsOk := by
  intro p
  rw [State.report, reports]
  exact ⟨(ok p).1, fun record => (ok p).2 (flying p record)⟩

theorem State.recordInFlight_of_port {s t : State} (port : t.port = s.port) (p : Pen) (record : t.recordInFlight p) :
    s.recordInFlight p := by
  obtain ⟨a, k, granted, rest⟩ := record
  exact ⟨a, k, port ▸ granted, rest⟩

theorem reportsOk_kept : KeptByMenusAndPaths State.reportsOk where
  same _ _ _ reports port ok := State.reportsOk_of_same reports (State.recordInFlight_of_port port) ok
  menu _ _ _ _ ok := ok
  idle s ok := State.reportsOk_of_same (s := s) rfl (fun p ⟨a, k, granted, _⟩ => by cases granted) ok
  granted s a idle waits ok := by
    intro p
    refine ⟨(ok p).1, fun ⟨b, k, granted, purpose, _⟩ => ?_⟩
    cases granted
    exact State.firstWaiting_record waits purpose
  endCentreAccess s p ok := by
    refine State.reportsOk_of_same (by simp) (fun q ⟨a, k, granted, purpose, live⟩ => ?_) ok
    unfold State.endCentreAccess at granted
    split at granted
    case h_2 => exact ⟨a, k, granted, purpose, live⟩
    case h_1 =>
      split at granted
      case isTrue =>
        cases granted
        cases live
      case isFalse => exact ⟨a, k, granted, purpose, live⟩
  stage s p record ok := State.reportsOk_of_path (s.stage_eq p record) (ReportPath.ok_stage record)
    (fun _ => ReportPath.writing_stage record) ok
  flush s p next ok := State.reportsOk_of_path (s.flush_eq p next) (ReportPath.ok_flush next _)
    (ReportPath.writing_flush next _) ok
  boundary s p ok := State.reportsOk_of_path (s.reportBoundary_eq p) ReportPath.ok_boundary ReportPath.writing_boundary ok
  pagesTaken s p pg idle ok := State.reportsOk_of_idle (s.takePages_eq p pg) idle (fun path_ok => by
    have ends := ReportPath.ok_endFlush (r := { s.report p with pendingPages := some pg }) (ReportPath.ok_iff.1 path_ok).short
    exact ends) ok
  pagesHeld s p pg ok := State.reportsOk_of_path (State.setReport_eq_putReport _ _ _)
    (fun path_ok => ReportPath.ok_iff.2 { ReportPath.ok_iff.1 path_ok with }) (fun _ writing => writing) ok
  pageRead s p w idle ok := State.reportsOk_of_idle (s.pageRead_eq p w) idle (ReportPath.ok_pageRead w) ok
  recordWritten s a p k granted purpose live ok := by
    have writing := (ok p).2 ⟨a, k, granted, purpose, live⟩
    have rests : (s.setPort none).reportsOk := State.reportsOk_of_same (s := s) rfl (fun p ⟨a, k, granted, _⟩ => by cases granted) ok
    exact State.reportsOk_of_idle (State.recordWritten_eq _ p k) rfl (ReportPath.ok_recordWritten k writing.1) rests
  headerWritten s p k idle ok := by
    have eq := s.headerWritten_eq p k
    split at eq
    case isTrue =>
      exact State.reportsOk_of_idle eq idle (fun path_ok => ReportPath.ok_iff.2 { ReportPath.ok_iff.1 path_ok with }) ok
    case isFalse =>
      refine State.reportsOk_of_idle (s := s.note .page) eq idle (fun path_ok => ?_) ok
      split
      case isTrue => exact ReportPath.ok_endFlush (ReportPath.ok_iff.1 path_ok).short
      case isFalse => exact ReportPath.ok_closed path_ok
  pageFault s p idle ok := State.reportsOk_of_idle (s.pageFault_eq p) idle (fun _ => ReportPath.ok_pageFault) ok
  closedSeq s p ok := State.reportsOk_of_path (State.setReport_eq_putReport _ _ _)
    (fun path_ok => ReportPath.ok_iff.2 { ReportPath.ok_iff.1 path_ok with }) (fun _ writing => writing) ok
  stopped s ok := by
    intro p
    refine ⟨?_, fun ⟨a, k, granted, _, live⟩ => ?_⟩
    · show ((s.reports.map ReportPath.stop).get p).ok
      rw [PerPen.get_map]
      exact ReportPath.ok_stop
    · obtain ⟨b, _, rfl⟩ := Option.map_eq_some_iff.1 granted
      unfold Access.end at live
      dsimp only at live
      split at live <;> cases live
  resetBlocks s anchor port dropped _ := by
    intro p
    refine ⟨?_, fun ⟨a, k, granted, _, live⟩ => ?_⟩
    · rw [s.report_resetBlocks anchor port p]
      exact ReportPath.ok_reset _
    · rw [dropped a granted] at live
      cases live

/-- Settles O58: each operation of a path keeps it in order, and the record that is being written stands at the front of its
queue until its last word is written. -/
theorem reportsKept : Obligations.ReportsKept :=
  fun _ _ ok stepped => step_keeps reportsOk_kept.blocks.commands ok stepped

end Sys2Proof.Machine
end

section
/-! PROOF. Every step keeps the pens: candidate tables, fences, calibrations and delays (R31, R72, R73, R130, R144). -/

namespace Sys2Proof.Machine

open Sys2Proof

/-! ## Pens in order -/

/-- One pen's part of the promise. -/
def PenChannel.ok (c : PenChannel) : Prop := c.windowOk ∧ c.crossOk ∧ c.calibOk ∧ c.delay ≤ 255

/-- The centre lies within the fence, where there is one (R130). -/
def Tracking.inFence (t : Tracking) : Prop := ∀ f, t.fence = some f → f.holds t.cx t.cy

/-- A pen changes from one value in order to another, and does not begin a calibration. -/
structure PenChannel.Moves (c d : PenChannel) : Prop where
  ok : c.ok → d.ok
  calibrating : d.state = .calibrating → c.state = .calibrating

theorem WindowState.tableOk_opened : WindowState.opened.tableOk :=
  ⟨Nat.zero_le _, .nil, fun _ mem => absurd mem List.not_mem_nil⟩

namespace PenChannel

variable {c d e : PenChannel}

theorem Moves.refl (c : PenChannel) : c.Moves c := ⟨id, id⟩

theorem Moves.trans (first : c.Moves d) (second : d.Moves e) : c.Moves e :=
  ⟨second.ok ∘ first.ok, first.calibrating ∘ second.calibrating⟩

/-- A change beside state, mode, block, delay, window, cross and calibration. -/
theorem moves_of_same (state : d.state = c.state) (opts : d.opts = c.opts) (delay : d.delay = c.delay)
    (window : d.window = c.window) (track : d.track = c.track) (calib : d.calib = c.calib) : c.Moves d := by
  refine ⟨fun ok => ?_, fun calibrating => state ▸ calibrating⟩
  unfold PenChannel.ok PenChannel.windowOk PenChannel.crossOk PenChannel.calibOk at ok ⊢
  rw [state, opts, delay, window, track, calib]
  exact ok

/-- A change of the window alone: an ARMED PICK pen's table stays in order, another pen's window opens. -/
theorem moves_window {w : WindowState} (fine : c.window.tableOk → w.tableOk)
    (opened : ¬ (c.state = .armed ∧ c.opts.mode = .pick) → w = .opened) : c.Moves { c with window := w } := by
  refine ⟨fun ⟨window, cross, calib, delay⟩ => ⟨⟨fine window.1, opened⟩, cross, calib, delay⟩, id⟩

theorem moves_opened (c : PenChannel) : c.Moves { c with window := .opened } :=
  moves_window (fun _ => WindowState.tableOk_opened) fun _ => rfl

/-- A change of the cross of a pen in TRACK mode that is not DISARMED: the fence stays, and the centre stays within it. -/
theorem moves_track {t : Tracking} (mode : c.opts.mode = .track) (live : c.state ≠ .disarmed)
    (fence : t.fence = c.track.fence) (within : c.track.inFence → t.inFence) : c.Moves { c with track := t } := by
  refine ⟨fun ⟨window, ⟨inside, block, _⟩, calib, delay⟩ => ⟨window, ⟨within inside, ?_, ?_⟩, calib, delay⟩, id⟩
  · rw [show ({ c with track := t } : PenChannel).track.fence = c.track.fence from fence]
    exact block
  · rintro (off | pick)
    · exact absurd off live
    · rw [show c.opts.mode = .pick from pick] at mode
      cases mode

/-- A change of the cross that keeps fence and centre and leaves the rest of it as it is, or at rest. -/
theorem moves_sums {t : Tracking} (fence : t.fence = c.track.fence) (cx : t.cx = c.track.cx) (cy : t.cy = c.track.cy)
    (fix : t.fix = c.track.fix ∨ t.fix = .noFix) (nX : t.nX = c.track.nX ∨ t.nX = 0) (nY : t.nY = c.track.nY ∨ t.nY = 0)
    (centre : c.track.centre = .idle → t.centre = .idle) : c.Moves { c with track := t } := by
  refine ⟨fun ⟨window, ⟨inside, block, rests⟩, calib, delay⟩ => ⟨window, ⟨fun f fenced => ?_, ?_, fun off => ?_⟩, calib, delay⟩, id⟩
  · rw [show ({ c with track := t } : PenChannel).track.cx = c.track.cx from cx,
      show ({ c with track := t } : PenChannel).track.cy = c.track.cy from cy]
    exact inside f (fence ▸ fenced)
  · rw [show ({ c with track := t } : PenChannel).track.fence = c.track.fence from fence]
    exact block
  · obtain ⟨no_fix, no_x, no_y, idle⟩ := rests off
    exact ⟨fix.elim (·.trans no_fix) id, nX.elim (·.trans no_x) id, nY.elim (·.trans no_y) id, centre idle⟩

/-- A pen as its own disarm or a DISARM leaves it (R29, R30). -/
def disarmed (c : PenChannel) : PenChannel :=
  { c with state := .disarmed, window := .opened, run := none, lockout := none, track := c.track.rest }

theorem crossOk_disarmed (inside : c.track.inFence) : c.disarmed.crossOk :=
  ⟨inside, fun live => absurd rfl live, fun _ => ⟨rfl, rfl, rfl, rfl⟩⟩

theorem moves_disarmed (armed : c.state = .armed) : c.Moves c.disarmed := by
  refine ⟨fun ⟨window, cross, ⟨measuring, _⟩, delay⟩ => ?_, fun calibrating => by cases calibrating⟩
  have none_measured : c.calib = none := by
    cases calib : c.calib with
    | none => rfl
    | some k =>
      have calibrating := measuring.1 (by rw [calib]; rfl)
      rw [armed] at calibrating
      cases calibrating
  refine ⟨⟨WindowState.tableOk_opened, fun _ => rfl⟩, crossOk_disarmed cross.1, ⟨?_, fun k some_k => ?_⟩, delay⟩
  · show c.calib.isSome ↔ PenState.disarmed = .calibrating
    rw [none_measured]
    exact ⟨fun no => (by cases no), fun no => (by cases no)⟩
  · rw [show c.calib = some k from some_k] at none_measured
    cases none_measured

/-- The end of a calibration (R150). -/
theorem moves_calibrationEnded (calibrating : c.ok → c.state = .calibrating) : c.Moves c.calibrationEnded := by
  refine ⟨fun ok => ?_, fun again => by cases again⟩
  have state := calibrating ok
  obtain ⟨window, ⟨inside, block, rests⟩, _, delay⟩ := ok
  refine ⟨⟨WindowState.tableOk_opened, fun _ => rfl⟩, ⟨inside, fun _ => ?_, ?_⟩, ⟨?_, fun k none_left => ?_⟩, delay⟩
  · exact block (by rw [state]; exact PenState.noConfusion)
  · rintro (off | pick)
    · cases off
    · obtain ⟨no_fix, _, _, idle⟩ := rests (.inr pick)
      exact ⟨no_fix, rfl, rfl, idle⟩
  · exact ⟨fun no => (by cases no), fun no => (by cases no)⟩
  · cases none_left

end PenChannel

/-! ## Moves of the state at one pen -/

/-- One pen moves, no other changes, and the engine's work stays. -/
structure MovesPen (s : State) (p : Pen) (t : State) : Prop where
  work : t.engine.work = s.engine.work
  pens : ∃ d, (s.pen p).Moves d ∧ t.pens = s.pens.set p d

namespace MovesPen

variable {s t u : State} {p : Pen}

theorem of_pens (work : t.engine.work = s.engine.work) (pens : t.pens = s.pens) : MovesPen s p t :=
  ⟨work, s.pen p, .refl _, by rw [pens]; exact (PerPen.set_get _ p).symm⟩

theorem refl (s : State) (p : Pen) : MovesPen s p s := of_pens rfl rfl

theorem set {d : PenChannel} (moves : (s.pen p).Moves d) : MovesPen s p (s.setPen p d) := ⟨rfl, d, moves, rfl⟩

theorem pen_of_set {d : PenChannel} (pens : t.pens = s.pens.set p d) : t.pen p = d := by
  rw [State.pen, pens, PerPen.get_set_self]

theorem trans (first : MovesPen s p t) (second : MovesPen t p u) : MovesPen s p u := by
  obtain ⟨work, d, moves, pens⟩ := first
  obtain ⟨work', e, moves', pens'⟩ := second
  rw [pen_of_set pens] at moves'
  exact ⟨work'.trans work, e, moves.trans moves', by rw [pens', pens, PerPen.set_set]⟩

theorem then_set (first : MovesPen s p t) {d : PenChannel} (moves : (t.pen p).Moves d) : MovesPen s p (t.setPen p d) :=
  first.trans (set moves)

theorem stage (s : State) (p : Pen) (record : Record) : MovesPen s p (s.stage p record) :=
  of_pens (by simp) (by simp)

theorem answer (s : State) (p : Pen) (slot : SlotNo) (code value : Word) : MovesPen s p (s.answer slot code value) :=
  of_pens rfl rfl

theorem reportBoundary (s : State) (p : Pen) : MovesPen s p (s.reportBoundary p) := of_pens (by simp) (by simp)

theorem ite {b : Prop} [Decidable b] (yes : b → MovesPen s p t) (no : ¬ b → MovesPen s p u) :
    MovesPen s p (if b then t else u) := by
  split
  case isTrue h => exact yes h
  case isFalse h => exact no h

end MovesPen

/-- What a disarm leaves in the pens (R29). -/
theorem State.disarm_pens (s : State) (p : Pen) : (s.disarm p).pens = s.pens.set p (s.pen p).disarmed := by
  have ended : (s.endArm p).pens =
      s.pens.set p
        { s.pen p with window := .opened, run := none, lockout := none, track := (s.pen p).track.rest } := by
    have inner : ((((s.clearWindow p).clearRun p).dropAwait p).endCentreAccess p).pens =
        s.pens.set p { s.pen p with window := .opened, run := none, lockout := none } := by
      simp [State.clearWindow, State.clearRun]
    have inner_pen := MovesPen.pen_of_set inner
    simp only [State.endArm, State.setPen_pens, inner, inner_pen, PerPen.set_set]
  have pen_ended := MovesPen.pen_of_set ended
  simp only [State.disarm, (State.flush_frame _ _ _).2.2.2.1, State.setPen_pens, ended, pen_ended, PerPen.set_set]
  rfl

theorem MovesPen.disarm {s : State} {p : Pen} (armed : (s.pen p).state = .armed) : MovesPen s p (s.disarm p) :=
  ⟨by simp, _, PenChannel.moves_disarmed armed, s.disarm_pens p⟩

section
variable {s : State} {p : Pen}

theorem MovesPen.count (s : State) (p : Pen) (f : PenCounters → PenCounters) : MovesPen s p (s.count p f) :=
  .set (PenChannel.moves_of_same rfl rfl rfl rfl rfl rfl)

theorem MovesPen.clearWindow (s : State) (p : Pen) : MovesPen s p (s.clearWindow p) := .set (PenChannel.moves_opened _)

theorem MovesPen.clearRun (s : State) (p : Pen) : MovesPen s p (s.clearRun p) :=
  .set (PenChannel.moves_of_same rfl rfl rfl rfl rfl rfl)

/-! ### Windows -/

theorem WindowState.tableOk_enter {w v : WindowState} {t : ClassifiedHit} (entered : w.enter t = some v)
    (ok : w.tableOk) : v.tableOk := by
  obtain ⟨short, apart, hits⟩ := ok
  have key : ∀ c : Candidate, (if c.matchesHit t then c.add t else c).tag = c.tag ∧
      (if c.matchesHit t then c.add t else c).view = c.view ∧
      (if c.matchesHit t then c.add t else c).arrival = c.arrival := fun c => by
    unfold Candidate.add
    (repeat' split) <;> exact ⟨rfl, rfl, rfl⟩
  have counted : ∀ c : Candidate, 1 ≤ c.hits ∧ c.hits ≤ 255 →
      1 ≤ (if c.matchesHit t then c.add t else c).hits ∧ (if c.matchesHit t then c.add t else c).hits ≤ 255 :=
    fun c ⟨pos, few⟩ => by
      unfold Candidate.add
      split
      · split
        case isTrue below => exact ⟨Nat.le_succ_of_le pos, below⟩
        case isFalse => exact ⟨pos, few⟩
      · exact ⟨pos, few⟩
  unfold WindowState.enter at entered
  split at entered
  case isTrue =>
    cases entered
    refine ⟨by rw [List.length_map]; exact short, ?_, fun e mem => ?_⟩
    · rw [List.pairwise_map]
      refine apart.imp fun {a b} rel => ?_
      obtain ⟨tag, view, arrival⟩ := key a
      obtain ⟨tag', view', arrival'⟩ := key b
      rw [tag, view, arrival, tag', view', arrival']
      exact rel
    · obtain ⟨c, was, rfl⟩ := List.mem_map.1 mem
      obtain ⟨pos, few, arrived⟩ := hits c was
      obtain ⟨pos', few'⟩ := counted c ⟨pos, few⟩
      exact ⟨pos', few', by rw [(key c).2.2]; exact arrived⟩
  case isFalse absent =>
    split at entered
    case isFalse => cases entered
    case isTrue room =>
      cases entered
      have others : ∀ c ∈ w.table, ¬ (c.tag = t.tag ∧ c.view = t.view) := fun c mem same => by
        refine absent (List.any_eq_true.2 ⟨c, mem, ?_⟩)
        simp only [Candidate.matchesHit, beq_iff_eq, Bool.and_eq_true]
        exact same
      refine ⟨by rw [List.length_append]; exact room, ?_, fun e mem => ?_⟩
      · refine List.pairwise_append.2 ⟨apart, .cons (fun _ mem => absurd mem List.not_mem_nil) .nil, fun c mem e last => ?_⟩
        obtain rfl := List.mem_singleton.1 last
        exact ⟨others c mem, (hits c mem).2.2⟩
      · rcases List.mem_append.1 mem with mem | mem
        · obtain ⟨pos, few, arrived⟩ := hits e mem
          exact ⟨pos, few, Nat.lt_succ_of_lt arrived⟩
        · obtain rfl := List.mem_singleton.1 mem
          exact ⟨Nat.le_refl 1, by show 1 ≤ 255; omega, Nat.lt_succ_self _⟩

theorem MovesPen.drawingHit {t : ClassifiedHit} (armed : (s.pen t.pen).state = .armed)
    (pick : (s.pen t.pen).opts.mode = .pick) : MovesPen s t.pen (s.drawingHit t) := by
  unfold State.drawingHit
  dsimp only
  split
  case isTrue => exact .count _ _ _
  case isFalse =>
    split
    case h_1 w entered =>
      exact .set (PenChannel.moves_window (WindowState.tableOk_enter entered) fun other => absurd ⟨armed, pick⟩ other)
    case h_2 =>
      refine MovesPen.trans (.set (PenChannel.moves_window (w := { (s.pen t.pen).window with crowded := true }) id ?_))
        (.count _ _ _)
      exact fun other => absurd ⟨armed, pick⟩ other

theorem MovesPen.decision (armed : (s.pen p).state = .armed) (reason : CloseReason) (frame : Long) :
    MovesPen s p (s.decision p reason frame) := by
  unfold State.decision
  dsimp only
  split
  case h_1 => exact MovesPen.trans (.count s p _) (.clearWindow _ p)
  case h_2 =>
    refine .ite (fun _ => ?_) fun _ => (MovesPen.stage s p _).trans (.clearWindow _ p)
    refine ((MovesPen.stage s p _).trans (.clearWindow _ p)).trans (.disarm ?_)
    rw [State.clearWindow, State.pen_setPen_self, State.pen_stage]
    exact armed

theorem MovesPen.idleJudgement (armed : (s.pen p).state = .armed) (pick : (s.pen p).opts.mode = .pick) (frame : Long) :
    MovesPen s p (s.idleJudgement p frame) := by
  have idled : ∀ n, MovesPen s p (s.setPen p { s.pen p with window := { (s.pen p).window with idle := n } }) := fun n =>
    .set (PenChannel.moves_window id fun other => absurd ⟨armed, pick⟩ other)
  unfold State.idleJudgement
  dsimp only
  split
  case h_1 => exact .refl s p
  case h_2 =>
    refine .ite (fun _ => .refl s p) fun _ => .ite (fun _ => .refl s p) fun _ => .ite (fun _ => ?_) fun _ => idled _
    exact (idled _).trans (.decision (by rw [State.pen_setPen_self]; exact armed) _ _)

theorem MovesPen.windowRelease (armed : (s.pen p).state = .armed) : MovesPen s p (s.windowRelease p) := by
  unfold State.windowRelease
  exact .ite (fun _ => .decision armed _ _) fun _ => .refl s p

theorem MovesPen.windowAbort (s : State) (p : Pen) (reason : LossCause) : MovesPen s p (s.windowAbort p reason) := by
  unfold State.windowAbort
  exact (MovesPen.ite (fun _ => .refl s p) fun _ => .stage s p _).trans (.clearWindow _ p)

/-! ### The cross -/

theorem Fence.holds_clampTo {f : Fence} {x y : Nat} (within : f.holds x y) (x' y' : Nat) :
    f.holds (clampTo f.xmin f.xmax x') y ∧ f.holds x (clampTo f.ymin f.ymax y') := by
  obtain ⟨x0, x1, y0, y1, rest⟩ := within
  rw [clampTo_eq_max_min (Nat.le_trans x0 x1), clampTo_eq_max_min (Nat.le_trans y0 y1)]
  exact ⟨⟨by omega, by omega, y0, y1, rest⟩, ⟨x0, x1, by omega, by omega, rest⟩⟩

theorem Tracking.raiseCentre_same (t : Tracking) :
    t.raiseCentre.fence = t.fence ∧ t.raiseCentre.cx = t.cx ∧ t.raiseCentre.cy = t.cy := by
  unfold Tracking.raiseCentre
  split <;> exact ⟨rfl, rfl, rfl⟩

theorem Tracking.moveTo_same (t : Tracking) (x y : Nat) :
    (t.moveTo x y).fence = t.fence ∧ (t.moveTo x y).cx = x ∧ (t.moveTo x y).cy = y := by
  unfold Tracking.moveTo
  split
  case isTrue same => exact ⟨rfl, same.1.symm, same.2.symm⟩
  case isFalse => exact Tracking.raiseCentre_same _

theorem Tracking.inFence_congr {t u : Tracking} (fence : u.fence = t.fence) (cx : u.cx = t.cx) (cy : u.cy = t.cy)
    (within : t.inFence) : u.inFence := fun f fenced => by
  rw [cx, cy]
  exact within f (fence ▸ fenced)

theorem Tracking.inFence_moveX {t : Tracking} (within : t.inFence) (x : Nat) : (t.moveTo (t.fenceX x) t.cy).inFence := by
  obtain ⟨fence, cx, cy⟩ := t.moveTo_same (t.fenceX x) t.cy
  intro f fenced
  rw [fence] at fenced
  rw [cx, cy, Tracking.fenceX, fenced]
  exact (Fence.holds_clampTo (within f fenced) x 0).1

theorem Tracking.inFence_moveY {t : Tracking} (within : t.inFence) (y : Nat) : (t.moveTo t.cx (t.fenceY y)).inFence := by
  obtain ⟨fence, cx, cy⟩ := t.moveTo_same t.cx (t.fenceY y)
  intro f fenced
  rw [fence] at fenced
  rw [cx, cy, Tracking.fenceY, fenced]
  exact (Fence.holds_clampTo (within f fenced) 0 y).2

/-- The cross as a completed x average leaves it (R134). -/
def Tracking.averagedX (t : Tracking) (ws : List Word) : Tracking :=
  ({ t with sumX := 0, nX := 0 }).moveTo (t.fenceX (average t.sumX (ctxAvg ws))) t.cy

/-- The cross as a completed y average leaves it (R134). -/
def Tracking.averagedY (t : Tracking) (ws : List Word) : Tracking :=
  ({ t with sumY := 0, nY := 0 }).moveTo t.cx (t.fenceY (average t.sumY (ctxAvg ws)))

section
variable (mode : (s.pen p).opts.mode = .track) (live : (s.pen p).state ≠ .disarmed)
include mode live

/-- A change of the cross of a TRACK pen that keeps fence and centre. -/
theorem MovesPen.track {t : Tracking} (fence : t.fence = (s.pen p).track.fence) (cx : t.cx = (s.pen p).track.cx)
    (cy : t.cy = (s.pen p).track.cy) : MovesPen s p (s.setPen p { s.pen p with track := t }) :=
  .set (PenChannel.moves_track mode live fence (Tracking.inFence_congr fence cx cy))

theorem MovesPen.deadBandTest (ws : List Word) (frame : Long) : MovesPen s p (s.deadBandTest p ws frame) := by
  unfold State.deadBandTest
  dsimp only
  refine .ite (fun _ => ?_) fun _ => .refl s p
  refine (MovesPen.stage s p _).trans (.track ?_ ?_ rfl rfl rfl) <;> rw [State.pen_stage]
  · exact mode
  · exact live

theorem MovesPen.averageX (ws : List Word) (frame : Long) : MovesPen s p (s.averageX p ws frame) := by
  have moved : MovesPen s p (s.setPen p { s.pen p with track := (s.pen p).track.averagedX ws }) :=
    .set (PenChannel.moves_track mode live (Tracking.moveTo_same _ _ _).1 fun within =>
      Tracking.inFence_moveX (t := { (s.pen p).track with sumX := 0, nX := 0 }) within _)
  exact moved.trans
    (.deadBandTest (by rw [State.pen_setPen_self]; exact mode) (by rw [State.pen_setPen_self]; exact live) ws frame)

theorem MovesPen.averageY (ws : List Word) (frame : Long) : MovesPen s p (s.averageY p ws frame) := by
  have moved : MovesPen s p (s.setPen p { s.pen p with track := (s.pen p).track.averagedY ws }) :=
    .set (PenChannel.moves_track mode live (Tracking.moveTo_same _ _ _).1 fun within =>
      Tracking.inFence_moveY (t := { (s.pen p).track with sumY := 0, nY := 0 }) within _)
  exact moved.trans
    (.deadBandTest (by rw [State.pen_setPen_self]; exact mode) (by rw [State.pen_setPen_self]; exact live) ws frame)

theorem MovesPen.trackLoss (cause : LossCause) (frame : Long) : MovesPen s p (s.trackLoss p cause frame) := by
  unfold State.trackLoss
  dsimp only
  refine (MovesPen.stage s p _).trans (.track ?_ ?_ rfl rfl rfl) <;> rw [State.pen_stage]
  · exact mode
  · exact live

theorem MovesPen.missJudgement (frame : Long) : MovesPen s p (s.missJudgement p frame) := by
  have missed : ∀ n, MovesPen s p (s.setPen p { s.pen p with track := { (s.pen p).track with miss := n } }) := fun n =>
    .track mode live rfl rfl rfl
  unfold State.missJudgement
  dsimp only
  split
  case h_1 => exact .refl s p
  case h_2 =>
    refine .ite (fun _ => .refl s p) fun _ => .ite (fun _ => .refl s p) fun _ => .ite (fun _ => ?_) fun _ => missed _
    exact (missed _).trans
      (.trackLoss (by rw [State.pen_setPen_self]; exact mode) (by rw [State.pen_setPen_self]; exact live) _ _)

theorem MovesPen.trackAbort (cause : LossCause) : MovesPen s p (s.trackAbort p cause) := by
  unfold State.trackAbort
  exact .ite (fun _ => .trackLoss mode live _ _) fun _ => .track mode live rfl rfl rfl

end

theorem MovesPen.ownArmHit {t : ClassifiedHit} (armed : (s.pen t.pen).state = .armed)
    (mode : (s.pen t.pen).opts.mode = .track) (arm : Nat) : MovesPen s t.pen (s.ownArmHit arm t) := by
  have live : (s.pen t.pen).state ≠ .disarmed := by rw [armed]; exact PenState.noConfusion
  have summedX : ∀ x n, MovesPen s t.pen (s.setPen t.pen
      { s.pen t.pen with
        track :=
          { (s.pen t.pen).track with miss := 0, lastArm := some t.frame, fix := .tracking, sumX := x, nX := n } }) :=
    fun x n => .track mode live rfl rfl rfl
  have summedY : ∀ y n, MovesPen s t.pen (s.setPen t.pen
      { s.pen t.pen with
        track :=
          { (s.pen t.pen).track with miss := 0, lastArm := some t.frame, fix := .tracking, sumY := y, nY := n } }) :=
    fun y n => .track mode live rfl rfl rfl
  unfold State.ownArmHit
  dsimp only
  refine .ite (fun _ => .count _ _ _) fun _ => .ite (fun _ => ?_) fun _ => ?_
  · exact .ite (fun _ => (summedX _ _).trans
      (.averageX (by rw [State.pen_setPen_self]; exact mode) (by rw [State.pen_setPen_self]; exact live) _ _))
      fun _ => summedX _ _
  · exact .ite (fun _ => (summedY _ _).trans
      (.averageY (by rw [State.pen_setPen_self]; exact mode) (by rw [State.pen_setPen_self]; exact live) _ _))
      fun _ => summedY _ _

theorem MovesPen.trackRelease (armed : (s.pen p).state = .armed) (mode : (s.pen p).opts.mode = .track) :
    MovesPen s p (s.trackRelease p) := by
  have live : (s.pen p).state ≠ .disarmed := by rw [armed]; exact PenState.noConfusion
  unfold State.trackRelease
  dsimp only
  refine .ite (fun _ => .refl s p) fun _ => ?_
  have released : ∀ record, MovesPen s p ((s.stage p record).setPen p
      { (s.stage p record).pen p with
        track :=
          { ((s.stage p record).pen p).track.dropSums with
            fix := .noFix, miss := 0, rx := ((s.stage p record).pen p).track.cx
            ry := ((s.stage p record).pen p).track.cy } }) := fun record => by
    refine (MovesPen.stage s p _).trans (.track ?_ ?_ rfl rfl rfl) <;> rw [State.pen_stage]
    · exact mode
    · exact live
  refine .ite (fun _ => (released _).trans (.disarm ?_)) fun _ => released _
  rw [State.pen_setPen_self, State.pen_stage]
  exact armed

/-! ### Menus -/

theorem MovesPen.setMenu (s : State) (p : Pen) (h : Head) (m : MenuUnit) : MovesPen s p (s.setMenu h m) := .of_pens rfl rfl

theorem MovesPen.confirm (armed : (s.pen p).state = .armed) (b : Nat) (btn : Button) (frame : Long) :
    MovesPen s p (s.confirm p b btn frame) := by
  have opened : ∀ h m, MovesPen s p ((s.clearWindow p).setMenu h m) := fun h m =>
    (MovesPen.clearWindow s p).trans (.setMenu _ p h m)
  have pen : ∀ h m, ((s.clearWindow p).setMenu h m).pen p = { s.pen p with window := .opened } := fun h m => by
    rw [State.pen_setMenu, State.clearWindow, State.pen_setPen_self]
  have escaped : ∀ h m, MovesPen s p
      (if btn.kind = .escape ∧ (((s.clearWindow p).setMenu h m).pen p).opts.mode = .track then
        ((s.clearWindow p).setMenu h m).setPen p
          { ((s.clearWindow p).setMenu h m).pen p with track := (((s.clearWindow p).setMenu h m).pen p).track.escape }
      else (s.clearWindow p).setMenu h m) := fun h m => by
    refine .ite (fun ⟨_, mode⟩ => (opened h m).trans (.track mode ?_ rfl rfl rfl)) fun _ => opened h m
    rw [pen]
    show (s.pen p).state ≠ .disarmed
    rw [armed]
    exact PenState.noConfusion
  unfold State.confirm
  dsimp only
  split
  case h_1 => exact (escaped _ _).trans (.stage _ p _)
  case h_2 => exact escaped _ _

theorem MovesPen.menuHit {t : ClassifiedHit} (armed : (s.pen t.pen).state = .armed) : MovesPen s t.pen (s.menuHit t) := by
  have same : ∀ run lockout, MovesPen s t.pen (s.setPen t.pen { s.pen t.pen with run := run, lockout := lockout }) :=
    fun run lockout => .set (PenChannel.moves_of_same rfl rfl rfl rfl rfl rfl)
  unfold State.menuHit
  dsimp only
  refine .ite (fun _ => .count _ _ _) fun _ => ?_
  split
  case h_1 => exact .count _ _ _
  case h_2 =>
    split
    case h_1 => exact .count _ _ _
    case h_2 =>
      refine .ite (fun _ => same _ _) fun _ => .ite (fun _ => ?_) fun _ => same _ _
      exact (same _ _).trans (.confirm (by rw [State.pen_setPen_self]; exact armed) _ _ _)

theorem MovesPen.runJudgement (s : State) (p : Pen) (frame : Long) : MovesPen s p (s.runJudgement p frame) :=
  .set (PenChannel.moves_of_same rfl rfl rfl rfl rfl rfl)

/-! ### Calibration -/

theorem MovesPen.endCalibration (k : Calibration) (code value : Word)
    (calibrating : (s.pen p).ok → (s.pen p).state = .calibrating) : MovesPen s p (s.endCalibration p k code value) :=
  ⟨rfl, _, PenChannel.moves_calibrationEnded calibrating, rfl⟩

theorem MovesPen.disturb (s : State) (p : Pen) : MovesPen s p (s.disturb p) := by
  unfold State.disturb
  split
  case h_1 state _ => exact .endCalibration _ _ _ fun _ => state
  case h_2 => exact .refl s p

theorem Calibration.judge_counts (k : Calibration) :
    k.judge.judged = k.judged + 1 ∧ (k.judge.good = k.good ∨ k.judge.good = k.good + 1) := by
  unfold Calibration.judge
  dsimp only
  split
  case h_1 =>
    split
    case isTrue => exact ⟨rfl, .inr rfl⟩
    case isFalse => exact ⟨rfl, .inl rfl⟩
  case h_2 => exact ⟨rfl, .inl rfl⟩

theorem PenChannel.moves_calib {c : PenChannel} {k k' : Calibration} (measuring : c.calib = some k)
    (counts : k.good < Config.goodFrames ∧ k.judged < Config.judgedFrames →
      k'.good < Config.goodFrames ∧ k'.judged < Config.judgedFrames) : c.Moves { c with calib := some k' } := by
  refine ⟨fun ⟨window, cross, ⟨present, counted⟩, delay⟩ => ⟨window, cross, ⟨?_, fun m eq => ?_⟩, delay⟩, id⟩
  · rw [measuring] at present
    exact present
  · cases eq
    exact counts (counted k measuring)

theorem MovesPen.calibrationJudgement (s : State) (p : Pen) : MovesPen s p (s.calibrationJudgement p) := by
  unfold State.calibrationJudgement
  split
  case h_1 => exact .refl s p
  case h_2 k measuring =>
    have calibrating : (s.pen p).ok → (s.pen p).state = .calibrating := fun ⟨_, _, ⟨present, _⟩, _⟩ =>
      present.1 (by rw [measuring]; rfl)
    dsimp only
    refine .ite (fun _ => .ite (fun _ => .endCalibration _ _ _ calibrating) fun in_range => ?_) fun goes_on => ?_
    · have short : ((k.judge.sum + 8) / 16).toNat ≤ 255 := by omega
      refine MovesPen.trans (t := s.setPen p { s.pen p with delay := ((k.judge.sum + 8) / 16).toNat }) (.set ⟨?_, id⟩)
        (.endCalibration _ _ _ fun delayed_ok => ?_)
      · exact fun ⟨window, cross, calib, _⟩ => ⟨window, cross, calib, short⟩
      · rw [State.pen_setPen_self] at delayed_ok ⊢
        obtain ⟨_, _, ⟨present, _⟩, _⟩ := delayed_ok
        exact present.1 (by show (s.pen p).calib.isSome; rw [measuring]; rfl)
    · refine .ite (fun _ => .endCalibration _ _ _ calibrating) fun more => .set (PenChannel.moves_calib measuring ?_)
      obtain ⟨judged, good⟩ := k.judge_counts
      simp only [Config.goodFrames, Config.judgedFrames] at goes_on more ⊢
      omega

/-! ### What the heads signal -/

/-- The idle judgement, where a frame start makes it (R32, R79). -/
def State.idleJudged (s : State) (p : Pen) (frame : Long) (boundary : Bool) : State :=
  if (s.pen p).state = .armed ∧ (s.pen p).opts.mode = .pick ∧ ¬ boundary then s.idleJudgement p frame else s

theorem MovesPen.judgePen (s : State) (p : Pen) (frame : Long) (boundary : Bool) :
    MovesPen s p (s.judgePen p frame boundary) := by
  have idle : MovesPen s p (s.idleJudged p frame boundary) :=
    .ite (fun ⟨armed, pick, _⟩ => .idleJudgement armed pick frame) fun _ => .refl s p
  have run := idle.trans (.runJudgement _ p frame)
  have miss : MovesPen s p (if (s.pen p).state = .armed ∧ (s.pen p).opts.mode = .track then
      ((s.idleJudged p frame boundary).runJudgement p frame).missJudgement p frame
      else (s.idleJudged p frame boundary).runJudgement p frame) := by
    refine .ite (fun ⟨armed, mode⟩ => ?_) fun _ => run
    have not_idle : s.idleJudged p frame boundary = s := if_neg fun ⟨_, pick, _⟩ => by
      rw [mode] at pick
      cases pick
    rw [not_idle]
    refine (MovesPen.runJudgement s p frame).trans (.missJudgement ?_ ?_ frame) <;>
      rw [State.runJudgement, State.pen_setPen_self]
    · exact mode
    · show (s.pen p).state ≠ .disarmed
      rw [armed]
      exact PenState.noConfusion
  exact .ite (fun _ => miss.trans (.calibrationJudgement _ p)) fun _ => miss

theorem MovesPen.closeAtBoundary (s : State) (p : Pen) (frame : Long) : MovesPen s p (s.closeAtBoundary p frame) := by
  unfold State.closeAtBoundary
  exact .ite (fun ⟨armed, _⟩ => .decision armed _ _) fun _ => .refl s p

theorem MovesPen.markHeld (s : State) (p : Pen) (held : Bool) : MovesPen s p (s.markHeld p held) := by
  have marked : MovesPen s p (s.setPen p { s.pen p with heldMark := held }) :=
    .set (PenChannel.moves_of_same rfl rfl rfl rfl rfl rfl)
  unfold State.markHeld
  exact .ite (fun _ => marked.trans (.disturb _ p)) fun _ => marked

/-- The judgements and the boundary close of a pen, where a frame start makes them (R32, R33). -/
def State.judgedAndClosed (s : State) (p : Pen) (frame : Long) (boundary sync : Bool) : State :=
  if boundary then
    (if ¬ (s.pen p).heldMark ∧ ¬ sync then s.judgePen p frame boundary else s).closeAtBoundary p frame
  else if ¬ (s.pen p).heldMark ∧ ¬ sync then s.judgePen p frame boundary else s

/-- The frame-start signal at a pen channel (R32, R33). -/
def State.signalChannel (s : State) (p : Pen) (frame : Long) (boundary held sync : Bool) : State :=
  if (s.pen p).state = .disarmed then s else (s.judgedAndClosed p frame boundary sync).markHeld p held

theorem State.signalPen_eq (s : State) (p : Pen) (frame : Long) (boundary held sync : Bool) :
    State.signalPen frame boundary held sync s p =
      if boundary then (s.signalChannel p frame boundary held sync).reportBoundary p
      else s.signalChannel p frame boundary held sync := rfl

theorem MovesPen.signalPen (s : State) (p : Pen) (frame : Long) (boundary held sync : Bool) :
    MovesPen s p (State.signalPen frame boundary held sync s p) := by
  have judged : MovesPen s p (if ¬ (s.pen p).heldMark ∧ ¬ sync then s.judgePen p frame boundary else s) :=
    .ite (fun _ => .judgePen s p frame boundary) fun _ => .refl s p
  have closed : MovesPen s p (s.judgedAndClosed p frame boundary sync) :=
    .ite (fun _ => judged.trans (.closeAtBoundary _ p frame)) fun _ => judged
  have taken : MovesPen s p (s.signalChannel p frame boundary held sync) :=
    .ite (fun _ => .refl s p) fun _ => closed.trans (.markHeld _ p held)
  rw [State.signalPen_eq]
  exact .ite (fun _ => taken.trans (.reportBoundary _ p)) fun _ => taken

theorem MovesPen.switchPen (s : State) (p : Pen) : MovesPen s p (s.switchPen p) := by
  unfold State.switchPen
  dsimp only
  refine .ite (fun _ => .ite (fun _ => ?_) fun _ => ?_) fun _ => .disturb s p
  · exact ((MovesPen.disturb s p).trans (.clearRun _ p)).then_set
      (PenChannel.moves_sums rfl rfl rfl (.inl rfl) (.inr rfl) (.inr rfl) id)
  · exact (MovesPen.disturb s p).trans (.clearRun _ p)

theorem MovesPen.penLoss (s : State) (p : Pen) (cause : LossCause) : MovesPen s p (State.penLoss cause s p) := by
  have marked : MovesPen s p ((s.disturb p).setPen p { (s.disturb p).pen p with deadMark := none }) :=
    (MovesPen.disturb s p).then_set (PenChannel.moves_of_same rfl rfl rfl rfl rfl rfl)
  unfold State.penLoss
  dsimp only
  refine .ite (fun _ => marked) fun live => ?_
  have cleared := marked.trans ((MovesPen.windowAbort _ p cause).trans (.clearRun _ p))
  have window : ∀ t : State, ((t.windowAbort p cause).clearRun p).pen p =
      { t.pen p with window := .opened, run := none, lockout := none } := fun t => by
    rw [State.clearRun, State.pen_setPen_self, State.windowAbort]
    dsimp only
    rw [State.clearWindow, State.pen_setPen_self]
    split
    · rfl
    · rw [State.pen_stage]
  refine .ite (fun mode => cleared.trans (.trackAbort mode ?_ cause)) fun _ => cleared
  rw [window]
  exact live

/-! ### Pulses, tips and clears -/

theorem categoryOf_mode {tag cls pen : Nat} {mode : Mode} :
    (categoryOf tag cls pen mode = .drawing → mode = .pick) ∧
      ∀ arm, categoryOf tag cls pen mode = .ownArm arm → mode = .track := by
  unfold categoryOf
  split
  case isTrue =>
    split
    case isTrue => exact ⟨Category.noConfusion, fun _ => Category.noConfusion⟩
    case isFalse =>
      split
      case isTrue => exact ⟨Category.noConfusion, fun _ => Category.noConfusion⟩
      case isFalse =>
        split
        case isTrue pick => exact ⟨fun _ => pick, fun _ => Category.noConfusion⟩
        case isFalse => exact ⟨Category.noConfusion, fun _ => Category.noConfusion⟩
  case isFalse =>
    split
    case isTrue own => exact ⟨Category.noConfusion, fun _ _ => own.2.2⟩
    case isFalse => exact ⟨Category.noConfusion, fun _ => Category.noConfusion⟩

theorem MovesPen.armedHit (armed : (s.pen p).state = .armed) (ws : List Word) (h : Nat) (saturated : Bool) (frame : Long) :
    MovesPen s p (s.armedHit p ws h saturated frame) := by
  unfold State.armedHit
  dsimp only
  split
  case h_1 => exact (MovesPen.count s p _).then_set (PenChannel.moves_of_same rfl rfl rfl rfl rfl rfl)
  case h_2 st k _ =>
    unfold State.deliverHit
    split
    case h_1 drawing =>
      exact MovesPen.drawingHit (t := s.classify p ws h frame st k) armed (categoryOf_mode.1 drawing)
    case h_2 => exact MovesPen.menuHit (t := s.classify p ws h frame st k) armed
    case h_3 arm own =>
      exact MovesPen.ownArmHit (t := s.classify p ws h frame st k) armed (categoryOf_mode.2 arm own) arm
    case h_4 => exact .count _ _ _

theorem MovesPen.takeHit (s : State) (p : Pen) (h : Nat) (saturated : Bool) (frame : Long) :
    MovesPen s p (s.takeHit p h saturated frame) := by
  unfold State.takeHit
  dsimp only
  refine .ite (fun _ => .count _ _ _) fun heard => .ite (fun _ => ?_) fun other => ?_
  · refine .set ⟨fun ⟨window, cross, ⟨present, counted⟩, delay⟩ => ⟨window, cross, ⟨?_, fun k some_k => ?_⟩, delay⟩, id⟩
    · rw [Option.isSome_map]
      exact present
    · obtain ⟨k', some_k', rfl⟩ := Option.map_eq_some_iff.1 some_k
      have counts := counted k' some_k'
      unfold Calibration.hit
      (repeat' split) <;> exact counts
  · have armed : (s.pen p).state = .armed := by
      cases state : (s.pen p).state with
      | disarmed => exact absurd (.inl state) heard
      | armed => rfl
      | calibrating => exact absurd state other
    split
    case h_1 => exact .count _ _ _
    case h_2 => exact .armedHit armed _ _ _ _

theorem MovesPen.pulse (s : State) (p : Pen) : MovesPen s p (s.pulse p) := by
  unfold State.pulse
  dsimp only
  refine .ite (fun _ => .refl s p) fun _ => .ite (fun _ => .refl s p) fun _ => ?_
  have marked : MovesPen s p (s.setPen p { s.pen p with deadMark := some ((s.head (s.pen p).opts.head).frame, (s.head (s.pen p).opts.head).step) }) :=
    .set (PenChannel.moves_of_same rfl rfl rfl rfl rfl rfl)
  exact (marked.trans (.count _ p _)).trans (.takeHit _ p _ _ _)

theorem MovesPen.tipOpens (s : State) (p : Pen) : MovesPen s p (s.tipOpens p) := by
  have opened : MovesPen s p (s.setPen p { s.pen p with tipClosed := false }) :=
    .set (PenChannel.moves_of_same rfl rfl rfl rfl rfl rfl)
  unfold State.tipOpens
  dsimp only
  split
  case h_1 armed _ => exact opened.trans (.windowRelease armed)
  case h_2 armed mode => exact opened.trans (.trackRelease armed mode)
  case h_3 => exact opened
  case h_4 => exact opened

theorem PenChannel.moves_clearAt (c : PenChannel) (j : Nat) : c.Moves (c.clearAt j) := by
  unfold PenChannel.clearAt
  split <;> exact PenChannel.moves_of_same rfl rfl rfl rfl rfl rfl

end

end Sys2Proof.Machine
end

section
/-! PROOF. Arming, calibrating and centre writes at a pen; every step keeps the pens (R31, R72, R73, R130, R144). -/

namespace Sys2Proof.Machine

open Sys2Proof

/-! ## An ARM at the pen (R26, R27, R131) -/

/-- A pen as an accepted ARM leaves it; `held` is the hold flag of its new head (R26, R27). -/
def PenChannel.armedBy (c : PenChannel) (rq : ArmRequest) (fence : Option Fence) (held : Bool) : PenChannel :=
  { c with
    opts := rq.opts
    delay := rq.delay.getD c.delay
    deadMark := none
    window := .opened
    run := none
    lockout := none
    heldMark := held
    track := (if c.state = .armed then c.track.rest else c.track).armed fence
    state := .armed }

/-- What the end of an arm leaves in the pens (R27). -/
theorem State.endArm_pens (s : State) (p : Pen) :
    (s.endArm p).pens =
      s.pens.set p
        { s.pen p with window := .opened, run := none, lockout := none, track := (s.pen p).track.rest } := by
  have inner : ((((s.clearWindow p).clearRun p).dropAwait p).endCentreAccess p).pens =
      s.pens.set p { s.pen p with window := .opened, run := none, lockout := none } := by
    simp [State.clearWindow, State.clearRun]
  have inner_pen := MovesPen.pen_of_set inner
  simp only [State.endArm, State.setPen_pens, inner, inner_pen, PerPen.set_set]

theorem State.arm_pens (s : State) (rq : ArmRequest) (fence : Option Fence) :
    (s.arm rq fence).pens =
      s.pens.set rq.pen ((s.pen rq.pen).armedBy rq fence (s.head rq.opts.head).hold) := by
  unfold State.arm PenChannel.armedBy
  dsimp only
  by_cases armed : (s.pen rq.pen).state = .armed
  · have pens : ((s.endArm rq.pen).flush rq.pen (some rq.pages)).pens = (s.endArm rq.pen).pens := by simp
    have heads : ((s.endArm rq.pen).flush rq.pen (some rq.pages)).heads = s.heads := by simp
    have pen := MovesPen.pen_of_set (pens.trans (s.endArm_pens rq.pen))
    simp only [if_pos armed, State.setPen_pens, pens, s.endArm_pens, pen, State.head, heads, PerPen.set_set]
  · simp only [if_neg armed]
    split <;> simp only [State.setPen_pens, State.pen_setReport, State.takePages, State.setReport_pens, State.head_setReport]

theorem fenceOf_holds {words : List Word} {f : Fence} (good : fenceOf words = some f) :
    f.holds ((f.xmin + f.xmax) / 2) ((f.ymin + f.ymax) / 2) := by
  unfold fenceOf at good
  split at good
  case h_2 => cases good
  case h_1 =>
    dsimp only at good
    split at good
    case isFalse => cases good
    case isTrue checks =>
      cases good
      simp only [Bool.and_eq_true, decide_eq_true_eq] at checks
      obtain ⟨⟨⟨⟨⟨_, x1⟩, _⟩, y1⟩, x⟩, y⟩ := checks
      exact ⟨by dsimp only; omega, by dsimp only; omega, by dsimp only; omega, by dsimp only; omega, x1, y1⟩

theorem armRequestOf_ok {ws : List Word} {rq : ArmRequest} (accepted : armRequestOf ws = some rq) :
    (∀ d, rq.delay = some d → d ≤ 255) ∧ (rq.opts.mode = .track → rq.opts.block.isSome) := by
  unfold armRequestOf at accepted
  split at accepted
  case h_2 => cases accepted
  case h_1 =>
    dsimp only at accepted
    split at accepted
    case isFalse => cases accepted
    case isTrue checks =>
      cases accepted
      simp only [Bool.and_eq_true, Bool.or_eq_true, decide_eq_true_eq] at checks
      obtain ⟨⟨_, delay⟩, _⟩ := checks
      refine ⟨fun d kept => ?_, fun track => ?_⟩
      · dsimp only at kept
        split at kept
        case isTrue => cases kept
        case isFalse given =>
          cases kept
          exact delay.resolve_right given
      · dsimp only at track ⊢
        split at track
        case isTrue => cases track
        case isFalse other => rw [if_neg other]; rfl

theorem Tracking.armed_none (t : Tracking) : t.armed none = { t.dropSums with fix := .noFix, fence := none } := rfl

theorem Tracking.armed_some (t : Tracking) (f : Fence) :
    (t.armed (some f)).fence = some f ∧ (t.armed (some f)).cx = (f.xmin + f.xmax) / 2 ∧
      (t.armed (some f)).cy = (f.ymin + f.ymax) / 2 :=
  Tracking.raiseCentre_same _

/-- An ARM leaves a pen in order, with a fence that holds its centre exactly for a TRACK arm (R131). -/
theorem PenChannel.ok_armedBy {c : PenChannel} {ws : List Word} {rq : ArmRequest} {fence : Option Fence} (held : Bool)
    (accepted : armRequestOf ws = some rq) (resting : c.state ≠ .calibrating)
    (fenced : ∀ f, fence = some f → f.holds ((f.xmin + f.xmax) / 2) ((f.ymin + f.ymax) / 2))
    (mode : rq.opts.mode = .track ↔ fence.isSome) (ok : c.ok) : (c.armedBy rq fence held).ok := by
  obtain ⟨delay_ok, block_ok⟩ := armRequestOf_ok accepted
  obtain ⟨window, ⟨inside, block, rests⟩, ⟨present, counted⟩, delay⟩ := ok
  have no_calib : c.calib = none := by
    cases calib : c.calib with
    | none => rfl
    | some k => exact absurd (present.1 (by rw [calib]; rfl)) resting
  refine ⟨⟨WindowState.tableOk_opened, fun _ => rfl⟩, ?_, ⟨?_, fun k some_k => ?_⟩, ?_⟩
  · generalize track : (if c.state = .armed then c.track.rest else c.track) = t
    have idle : t.centre = .idle := by
      rw [← track]
      split
      case isTrue => rfl
      case isFalse other =>
        refine (rests (.inl ?_)).2.2.2
        cases state : c.state with
        | disarmed => rfl
        | armed => exact absurd state other
        | calibrating => exact absurd state resting
    have armed : (c.armedBy rq fence held).track = t.armed fence := by rw [← track]; rfl
    refine ⟨fun f some_f => ?_, fun _ is_track => ⟨?_, block_ok is_track⟩, ?_⟩
    · rw [armed] at some_f ⊢
      cases fence with
      | none => cases some_f
      | some g =>
        obtain ⟨fence_eq, cx, cy⟩ := t.armed_some g
        rw [fence_eq] at some_f
        cases some_f
        rw [cx, cy]
        exact fenced _ rfl
    · rw [armed]
      obtain ⟨g, some_g⟩ := Option.isSome_iff_exists.1 (mode.1 is_track)
      rw [some_g, (t.armed_some g).1]
      rfl
    · rintro (off | pick)
      · cases off
      · cases fence with
        | none =>
          rw [armed, Tracking.armed_none]
          exact ⟨rfl, rfl, rfl, idle⟩
        | some g =>
          have track := mode.2 rfl
          rw [show rq.opts.mode = .pick from pick] at track
          cases track
  · show c.calib.isSome ↔ PenState.armed = .calibrating
    rw [no_calib]
    exact ⟨fun no => (by cases no), fun no => (by cases no)⟩
  · rw [show c.calib = some k from some_k] at no_calib
    cases no_calib
  · show rq.delay.getD c.delay ≤ 255
    cases given : rq.delay with
    | none => exact delay
    | some d => exact delay_ok d given

/-! ## The promise for all pens -/

/-- Work that reads a fence. -/
def Work.fences : Work → Prop
  | .fencing _ _ _ => True
  | .none | .reading _ _ | .taking _ _ | .loading _ _ _ _ _ | .snapshot _ _ _ _ _ => False

theorem State.pensOk_iff (s : State) : s.pensOk ↔ s.fencingOk ∧ ∀ p, (s.pen p).ok := Iff.rfl

theorem State.fencingOk_of_not_fences {s : State} (other : ¬ s.engine.work.fences) : s.fencingOk := by
  intro slot ws fence fencing
  rw [fencing] at other
  exact absurd trivial other

/-- One pen moves; the engine's work stays, or reads no fence. -/
theorem State.pensOk_of_set {s t : State} {p : Pen} {d : PenChannel} (pens : t.pens = s.pens.set p d)
    (fine : (s.pen p).ok → d.ok) (fencing : s.fencingOk → t.fencingOk) (ok : s.pensOk) : t.pensOk := by
  refine ⟨fencing ok.1, fun q => ?_⟩
  show (t.pen q).ok
  rw [State.pen, pens, PerPen.get_set]
  split
  case isTrue => exact fine (ok.2 p)
  case isFalse => exact ok.2 q

theorem State.pensOk_of_moves {s t : State} {p : Pen} (moves : MovesPen s p t) (ok : s.pensOk) : t.pensOk := by
  obtain ⟨work, d, moved, pens⟩ := moves
  refine State.pensOk_of_set pens moved.ok (fun fencing slot ws fence busy => ?_) ok
  obtain ⟨rq, accepted, track, resting⟩ := fencing slot ws fence (work ▸ busy)
  refine ⟨rq, accepted, track, fun calibrating => resting ?_⟩
  rw [State.pen, pens, PerPen.get_set] at calibrating
  split at calibrating
  case isTrue here => exact here ▸ moved.calibrating calibrating
  case isFalse => exact calibrating

theorem State.pensOk_of_pens {s t : State} (pens : t.pens = s.pens)
    (work : t.engine.work = s.engine.work ∨ ¬ t.engine.work.fences) (ok : s.pensOk) : t.pensOk := by
  rcases work with same | other
  · exact State.pensOk_of_moves (MovesPen.of_pens (p := .p0) same pens) ok
  · exact State.pensOk_of_set (p := .p0) (d := s.pen .p0) (by rw [pens]; exact (PerPen.set_get _ _).symm) id
      (fun _ => State.fencingOk_of_not_fences other) ok

theorem State.pensOk_reply {s : State} (slot : SlotNo) (code value : Word) (ok : s.pensOk) :
    (s.reply slot code value).pensOk :=
  State.pensOk_of_pens (s := s) rfl (.inr id) ok

theorem State.pensOk_arm {s : State} {ws : List Word} {rq : ArmRequest} {fence : Option Fence} (slot : SlotNo)
    (accepted : armRequestOf ws = some rq) (resting : (s.pen rq.pen).state ≠ .calibrating)
    (fenced : ∀ f, fence = some f → f.holds ((f.xmin + f.xmax) / 2) ((f.ymin + f.ymax) / 2))
    (mode : rq.opts.mode = .track ↔ fence.isSome) (code value : Word) (ok : s.pensOk) :
    ((s.arm rq fence).reply slot code value).pensOk :=
  State.pensOk_of_set (t := (s.arm rq fence).reply slot code value) (s.arm_pens rq fence)
    (PenChannel.ok_armedBy _ accepted resting fenced mode) (fun _ => State.fencingOk_of_not_fences id) ok

theorem State.pensOk_doArmPen {s : State} (slot : SlotNo) (ws : List Word) (ok : s.pensOk) :
    (s.doArmPen slot ws).pensOk := by
  unfold State.doArmPen
  split
  case h_1 => exact State.pensOk_reply _ _ _ ok
  case h_2 rq accepted =>
    split
    case isTrue => exact State.pensOk_reply _ _ _ ok
    case isFalse resting =>
      split
      case h_1 pick =>
        exact State.pensOk_arm slot accepted resting (fun f no => by cases no)
          ⟨fun track => (by rw [pick] at track; cases track), fun no => (by cases no)⟩ _ _ ok
      case h_2 track =>
        refine State.pensOk_of_set (s := s) (p := .p0) (d := s.pen .p0) (PerPen.set_get _ _).symm id (fun _ => ?_) ok
        intro slot' ws' fence fencing
        cases fencing
        exact ⟨rq, accepted, track, resting⟩

theorem State.pensOk_fenceWordRead {s : State} (w : Word) (ok : s.pensOk) : (s.fenceWordRead w).pensOk := by
  unfold State.fenceWordRead
  split
  case h_2 => exact ok
  case h_1 slot ws fence fencing =>
    obtain ⟨rq, accepted, track, resting⟩ := ok.1 slot ws fence fencing
    dsimp only
    split
    case isTrue =>
      refine State.pensOk_of_set (s := s) (p := .p0) (d := s.pen .p0) (PerPen.set_get _ _).symm id (fun _ => ?_) ok
      intro slot' ws' fence' fencing'
      cases fencing'
      exact ⟨rq, accepted, track, resting⟩
    case isFalse =>
      split
      case h_1 rq' f accepted' good =>
        rw [accepted] at accepted'
        cases accepted'
        refine State.pensOk_arm slot accepted resting (fun f' same => ?_) ⟨fun _ => rfl, fun _ => track⟩ _ _ ok
        cases same
        exact fenceOf_holds good
      case h_2 => exact State.pensOk_reply _ _ _ ok

theorem State.pensOk_doDisarmPen {s : State} (slot : SlotNo) (ws : List Word) (ok : s.pensOk) :
    (s.doDisarmPen slot ws).pensOk := by
  unfold State.doDisarmPen
  split
  case h_1 => exact State.pensOk_reply _ _ _ ok
  case h_2 p _ =>
    refine State.pensOk_reply _ _ _ (State.pensOk_of_moves (s := s) (p := p) ?_ ok)
    exact (MovesPen.disturb s p).trans (.ite (fun armed => .disarm armed) fun _ => .refl _ p)

theorem Tracking.moveCross_same (t : Tracking) (x y : Nat) :
    (t.moveCross x y).fence = t.fence ∧ (t.moveCross x y).cx = t.fenceX x ∧ (t.moveCross x y).cy = t.fenceY y :=
  Tracking.raiseCentre_same _

theorem State.pensOk_doMoveCross {s : State} (slot : SlotNo) (ws : List Word) (ok : s.pensOk) :
    (s.doMoveCross slot ws).pensOk := by
  unfold State.doMoveCross
  dsimp only
  split
  case h_1 => exact State.pensOk_reply _ _ _ ok
  case h_2 p _ =>
    split
    case isTrue => exact State.pensOk_reply _ _ _ ok
    case isFalse =>
      split
      case h_1 => exact State.pensOk_reply _ _ _ ok
      case h_2 => exact State.pensOk_reply _ _ _ ok
      case h_3 => exact State.pensOk_reply _ _ _ ok
      case h_4 armed track =>
        refine State.pensOk_reply _ _ _ (State.pensOk_of_moves (s := s) (p := p) (.set ?_) ok)
        obtain ⟨fence, cx, cy⟩ := (s.pen p).track.moveCross_same (arg ws 5).toNat (arg ws 6).toNat
        refine PenChannel.moves_track track (by rw [armed]; exact PenState.noConfusion) fence fun within f fenced => ?_
        rw [fence] at fenced
        rw [cx, cy, Tracking.fenceX, Tracking.fenceY, fenced]
        exact (Fence.holds_clampTo (Fence.holds_clampTo (within f fenced) (arg ws 5).toNat 0).1 0 _).2

theorem State.pensOk_doCalibratePen {s : State} (slot : SlotNo) (ws : List Word) (ok : s.pensOk) :
    (s.doCalibratePen slot ws).pensOk := by
  unfold State.doCalibratePen
  dsimp only
  split
  case h_1 => exact State.pensOk_reply _ _ _ ok
  case h_2 p _ =>
    split
    case isTrue => exact State.pensOk_reply _ _ _ ok
    case isFalse live =>
      split
      case isTrue => exact State.pensOk_reply _ _ _ ok
      case isFalse =>
        split
        case isTrue => exact State.pensOk_reply _ _ _ ok
        case isFalse =>
          split
          case isTrue => exact State.pensOk_reply _ _ _ ok
          case isFalse =>
            refine State.pensOk_of_set (s := s) (p := p) rfl (fun pen_ok => ?_)
              (fun _ => State.fencingOk_of_not_fences id) ok
            obtain ⟨window, ⟨inside, block, rests⟩, _, delay⟩ := pen_ok
            refine ⟨⟨WindowState.tableOk_opened, fun _ => rfl⟩, ⟨inside, fun _ => block live, ?_⟩,
              ⟨⟨fun _ => rfl, fun _ => rfl⟩, fun k fresh => ?_⟩, delay⟩
            · rintro (off | pick)
              · cases off
              · exact rests (.inr pick)
            · cases fresh
              exact ⟨Nat.zero_lt_succ _, Nat.zero_lt_succ _⟩

theorem State.pensOk_serve {s : State} (k : Option Kind) (slot : SlotNo) (ws : List Word) (ok : s.pensOk)
    (idle : s.engine.work = .none) : (s.serve k slot ws).pensOk := by
  have untouched : ∀ t : State, t.pens = s.pens → ¬ t.engine.work.fences → t.pensOk := fun t pens other =>
    State.pensOk_of_pens pens (.inr other) ok
  cases k with
  | none => exact State.pensOk_reply _ _ _ ok
  | some k =>
    cases k with
    | armPen => exact State.pensOk_doArmPen slot ws ok
    | disarmPen => exact State.pensOk_doDisarmPen slot ws ok
    | moveCross => exact State.pensOk_doMoveCross slot ws ok
    | calibratePen => exact State.pensOk_doCalibratePen slot ws ok
    | loadContext =>
      refine untouched _ (by simp [State.serve]) ?_
      simp only [State.serve, State.doLoadContext]
      (repeat' split) <;> exact id
    | switchContext =>
      refine untouched _ (by simp [State.serve]) ?_
      simp only [State.serve, State.doSwitchContext]
      (repeat' split) <;> exact id
    | setMenuPage =>
      refine untouched _ (by simp [State.serve]) ?_
      simp only [State.serve, State.doSetMenuPage]
      (repeat' split) <;> exact id
    | holdHead =>
      refine untouched _ (by simp [State.serve]) ?_
      simp only [State.serve, State.doHoldHead]
      split <;> exact id
    | releaseHead =>
      refine untouched _ (by simp [State.serve]) ?_
      simp only [State.serve, State.doReleaseHead]
      split <;> exact id
    | readCounters =>
      refine untouched _ (by simp [State.serve]) ?_
      simp only [State.serve, State.doReadCounters]
      split <;> exact id

/-! ### The ends of accesses -/

theorem Tracking.centreWritten_same (t : Tracking) (second : Bool) :
    (t.centreWritten second).fence = t.fence ∧ (t.centreWritten second).cx = t.cx ∧
      (t.centreWritten second).cy = t.cy ∧ (t.centreWritten second).fix = t.fix ∧
      (t.centreWritten second).nX = t.nX ∧ (t.centreWritten second).nY = t.nY ∧
      (t.centre = .idle → (t.centreWritten second).centre = .idle) := by
  unfold Tracking.centreWritten
  split
  · split
    case h_1 again => exact ⟨rfl, rfl, rfl, rfl, rfl, rfl, fun idle => by rw [again] at idle; cases idle⟩
    case h_2 => exact ⟨rfl, rfl, rfl, rfl, rfl, rfl, fun _ => rfl⟩
    case h_3 => exact ⟨rfl, rfl, rfl, rfl, rfl, rfl, fun _ => rfl⟩
  · exact ⟨rfl, rfl, rfl, rfl, rfl, rfl, id⟩

theorem Tracking.centreFailed_same (t : Tracking) :
    t.centreFailed.fence = t.fence ∧ t.centreFailed.cx = t.cx ∧ t.centreFailed.cy = t.cy ∧
      t.centreFailed.fix = t.fix ∧ t.centreFailed.nX = t.nX ∧ t.centreFailed.nY = t.nY ∧
      (t.centre = .idle → t.centreFailed.centre = .idle) := by
  unfold Tracking.centreFailed
  split
  case h_1 again => exact ⟨rfl, rfl, rfl, rfl, rfl, rfl, fun idle => by rw [again] at idle; cases idle⟩
  case h_2 => exact ⟨rfl, rfl, rfl, rfl, rfl, rfl, fun _ => rfl⟩
  case h_3 => exact ⟨rfl, rfl, rfl, rfl, rfl, rfl, fun _ => rfl⟩

theorem State.pensOk_loadStep {s t : State} {h : Head} (stepped : LoadStep s h t) (work : t.engine.work = s.engine.work)
    (ok : s.pensOk) : t.pensOk := by
  cases stepped with
  | rests => exact ok
  | phase => exact ok
  | failed l code status _ => exact State.pensOk_of_pens (by simp) (.inl work) ok
  | done l addr table _ _ =>
    rw [State.loadDone_eq]
    refine State.pensOk_of_pens (by simp) (.inl (by simp)) (s := (s.setMenu h ((s.menu h).loaded l addr table)).clearRuns h) ?_
    exact State.forPensOn_induct (fun t p _ ok => State.ite_keeps ok (State.pensOk_of_moves (.clearRun t p) ok)) ok

/-- After the end of an access the engine reads a fence only if it did before, or is told to. -/
theorem Completion.sameFence {u : Purpose} {live : State → State} (completes : Completion u live) (t : State) :
    ((live t).engine.work = t.engine.work ∨ ¬ (live t).engine.work.fences) ∨
      (∃ slot ws, live t = (t.joinOutstanding slot).doArmPen slot ws) ∨ ∃ w, live t = t.fenceWordRead w := by
  rcases completes.work t with work | quiet | starts
  · exact .inl (.inl work)
  · refine .inl (.inr fun fences => ?_)
    generalize (live t).engine.work = v at quiet fences
    cases v with
    | fencing => exact quiet
    | _ => exact fences
  · generalize live t = t' at starts
    cases starts with
    | armPen slot ws => exact .inr (.inl ⟨slot, ws, rfl⟩)
    | fenceWordRead w => exact .inr (.inr ⟨w, rfl⟩)
    | loadContext slot ws =>
      refine .inl (.inr fun fences => ?_)
      unfold State.doLoadContext at fences
      dsimp only at fences
      (repeat' split at fences) <;> exact fences
    | contextWordRead w =>
      refine .inl ?_
      unfold State.contextWordRead
      split
      case h_2 => exact .inl rfl
      case h_1 =>
        refine .inr fun fences => ?_
        dsimp only at fences
        (repeat' split at fences) <;> exact fences

theorem State.pensOk_completion {u : Purpose} {live : State → State} (completes : Completion u live) {t : State}
    (ok : t.pensOk) : (live t).pensOk := by
  have joined : ∀ slot, (t.joinOutstanding slot).pensOk := fun slot =>
    State.pensOk_of_pens (s := t) rfl (.inr id) ok
  have untouched : (live t).pens = t.pens → (live t).pensOk := fun pens => by
    rcases completes.sameFence t with work | ⟨slot, ws, eq⟩ | ⟨w, eq⟩
    · exact State.pensOk_of_pens pens work ok
    · exact eq ▸ State.pensOk_doArmPen slot ws (joined slot)
    · exact eq ▸ State.pensOk_fenceWordRead w ok
  cases completes with
  | centreWritten p second =>
    obtain ⟨fence, cx, cy, fix, nX, nY, idle⟩ := (t.pen p).track.centreWritten_same second
    exact State.pensOk_of_moves (.set (PenChannel.moves_sums fence cx cy (.inl fix) (.inl nX) (.inl nY) idle)) ok
  | centreFailed p second =>
    obtain ⟨fence, cx, cy, fix, nX, nY, idle⟩ := (t.pen p).track.centreFailed_same
    exact State.pensOk_of_moves (.set (PenChannel.moves_sums fence cx cy (.inl fix) (.inl nX) (.inl nY) idle)) ok
  | loadRead h w => exact State.pensOk_loadStep (t.loadRead_step h w) (by simp) ok
  | loadBusError h => exact State.pensOk_loadStep (t.loadBusError_step h) (by simp) ok
  | fenceWordRead w => exact State.pensOk_fenceWordRead w ok
  | takenDone kind k =>
    beta_reduce
    unfold State.takenDone
    split
    case h_1 slot ws _ => exact State.pensOk_serve k slot ws (joined slot) rfl
    case h_2 => exact ok
  | takenFailed =>
    beta_reduce
    unfold State.takenFailed
    split
    case h_1 => exact State.pensOk_of_pens (s := t) rfl (.inr id) ok
    case h_2 => exact ok
  | _ => exact untouched (by simp)

theorem PenChannel.ok_reset (tip : Bool) : (PenChannel.reset tip).ok :=
  ⟨⟨WindowState.tableOk_opened, fun _ => rfl⟩,
    ⟨fun f no => (by cases no), fun live => absurd rfl live, fun _ => ⟨rfl, rfl, rfl, rfl⟩⟩,
    ⟨⟨fun no => (by cases no), fun no => (by cases no)⟩, fun k no => (by cases no)⟩, Nat.zero_le _⟩

theorem PenChannel.ok_stop {c : PenChannel} (ok : c.ok) : c.stop.ok :=
  ⟨⟨WindowState.tableOk_opened, fun _ => rfl⟩,
    ⟨ok.2.1.1, fun live => absurd rfl live, fun _ => ⟨rfl, rfl, rfl, rfl⟩⟩,
    ⟨⟨fun no => (by cases no), fun no => (by cases no)⟩, fun k no => (by cases no)⟩, ok.2.2.2⟩

theorem pensOk_keptAtPens : KeptAtPens State.pensOk where
  same _ _ pens _ _ _ work ok := State.pensOk_of_pens pens (.inl work) ok
  signalPen s p _ _ _ _ ok := State.pensOk_of_moves (.signalPen s p _ _ _ _) ok
  switchPen s p ok := State.pensOk_of_moves (.switchPen s p) ok
  penLoss s p _ ok := State.pensOk_of_moves (.penLoss s p _) ok

theorem pensOk_keptByBlocks : KeptByBlocks State.pensOk where
  regs _ _ _ ok := ok
  scan _ _ _ ok := ok
  idle _ ok := ok
  granted _ _ _ _ ok := ok
  clearPen s p j ok := State.pensOk_of_moves (.set (PenChannel.moves_clearAt _ j)) ok
  highTaken s _ _ _ _ _ _ _ ok := State.pensOk_of_pens (s := s) rfl (.inr id) ok
  receiver _ _ _ _ ok := ok
  frameStart _ h _ ok := pensOk_keptAtPens.frameStart h ok
  syncFrameStart _ h _ ok := pensOk_keptAtPens.syncFrameStart h ok
  loseLink _ h ok := pensOk_keptAtPens.loseLink h ok
  disableHead _ h ok := pensOk_keptAtPens.disableHead h ok
  pulse s p ok := State.pensOk_of_moves (.pulse s p) ok
  tipCloses s p ok := State.pensOk_of_moves (p := p) (.set (PenChannel.moves_of_same rfl rfl rfl rfl rfl rfl)) ok
  tipOpens s p ok := State.pensOk_of_moves (.tipOpens s p) ok
  stopped s ok := by
    refine ⟨State.fencingOk_of_not_fences id, fun p => ?_⟩
    show ((s.pens.map PenChannel.stop).get p).ok
    rw [PerPen.get_map]
    exact PenChannel.ok_stop (ok.2 p)
  resetBlocks s anchor port _ _ := by
    refine ⟨State.fencingOk_of_not_fences id, fun p => ?_⟩
    show ((s.resetBlocks anchor port).pen p).ok
    rw [s.pen_resetBlocks anchor port p]
    exact PenChannel.ok_reset _
  closedSeq _ _ ok := ok
  completion s a live _ _ completes ok := State.pensOk_completion completes (t := s.setPort none) ok

/-- Settles O56: each operation of a pen channel takes a pen in order to one in order, and none but CALIBRATE PEN begins a
calibration. -/
theorem pensKept : Obligations.PensKept :=
  fun _ _ ok stepped => step_keeps pensOk_keptByBlocks.commands ok stepped

end Sys2Proof.Machine
end

section
/-! PROOF. Every step keeps at most one answer due for each outstanding slot (R174). -/

namespace Sys2Proof.Machine

open Sys2Proof

/-! ## The blocks at a RUN stop -/

section
variable (s : State)

theorem State.head_stopped (h : Head) : s.stopped.head h = (s.head h).runStop := PerHead.get_map _ _ h

theorem State.store_stopped (h : Head) : s.stopped.store h = (s.store h).stop := PerHead.get_map _ _ h

theorem State.menu_stopped (h : Head) : s.stopped.menu h = (s.menu h).stop := PerHead.get_map _ _ h

theorem State.pen_stopped (p : Pen) : s.stopped.pen p = (s.pen p).stop := PerPen.get_map _ _ p

theorem State.report_stopped (p : Pen) : s.stopped.report p = (s.report p).stop := PerPen.get_map _ _ p

end

/-! ## Counting the holders of a slot -/

/-- How many of the two heads' own hold slot `k`. -/
def PerHead.due {α : Type} (f : α → Option SlotNo) (x : PerHead α) (k : SlotNo) : Nat :=
  holdsSlot k (f x.a) + holdsSlot k (f x.b)

/-- How many of the four pens' own hold slot `k`. -/
def PerPen.due {α : Type} (f : α → Option SlotNo) (x : PerPen α) (k : SlotNo) : Nat :=
  holdsSlot k (f x.p0) + holdsSlot k (f x.p1) + holdsSlot k (f x.p2) + holdsSlot k (f x.p3)

theorem PerHead.due_set {α : Type} (f : α → Option SlotNo) (x : PerHead α) (h : Head) (v : α) (k : SlotNo) :
    (x.set h v).due f k + holdsSlot k (f (x.get h)) = x.due f k + holdsSlot k (f v) := by
  cases h <;> simp only [PerHead.due, PerHead.set, PerHead.get] <;> omega

theorem PerPen.due_set {α : Type} (f : α → Option SlotNo) (x : PerPen α) (p : Pen) (v : α) (k : SlotNo) :
    (x.set p v).due f k + holdsSlot k (f (x.get p)) = x.due f k + holdsSlot k (f v) := by
  cases p <;> simp only [PerPen.due, PerPen.set, PerPen.get] <;> omega

/-- The slot of a pen's calibration. -/
def PenChannel.calibSlot (c : PenChannel) : Option SlotNo := c.calib.map (·.slot)

/-- How many results are for slot `k`. -/
def resultsDue (results : List Result) (k : SlotNo) : Nat := results.countP (fun r => r.slot == k)

theorem State.answersDue_eq (s : State) (k : SlotNo) :
    s.answersDue k =
      resultsDue s.engine.results k + holdsSlot k s.engine.work.busySlot + s.heads.due HeadRx.waitingSlot k +
        s.ctx.due CtxStore.switchPending k + s.menus.due MenuUnit.servedSlot k + s.pens.due PenChannel.calibSlot k := by
  simp only [State.answersDue, resultsDue, PerHead.due, PerPen.due, PenChannel.calibSlot]
  omega

@[simp] theorem holdsSlot_none (k : SlotNo) : holdsSlot k none = 0 := rfl

theorem holdsSlot_takenOver (k : SlotNo) (i : Option SlotNo) (n : Nat) :
    holdsSlot k i + holdsSlot k none ≤ n + holdsSlot k i := Nat.le_add_left _ _

theorem holdsSlot_handedOn (k : SlotNo) (i j : Option SlotNo) :
    holdsSlot k none + holdsSlot k i ≤ holdsSlot k i + holdsSlot k j := by
  rw [holdsSlot_none]
  omega

theorem holdsSlot_givenUp (k : SlotNo) (i : Option SlotNo) (n : Nat) :
    holdsSlot k none + holdsSlot k i ≤ n + holdsSlot k i := by
  rw [holdsSlot_none]
  omega

theorem resultsDue_append (results : List Result) (slot : SlotNo) (code value : Word) (k : SlotNo) :
    resultsDue (results ++ [{ slot := slot, code := code, value := value }]) k =
      resultsDue results k + holdsSlot k (some slot) := by
  simp only [resultsDue, List.countP_append, List.countP_singleton, holdsSlot, beq_iff_eq, Option.some.injEq]

/-! ## The promise with one answer still to come -/

/-- The promise, with an answer for slot `j` still to be given. -/
structure State.SlotsOkWith (s : State) (j : Option SlotNo) : Prop where
  nodup : s.engine.outstanding.Nodup
  off : ∀ h, (s.head h).state = .off →
    (s.head h).hold = false ∧ (s.head h).holdPending = false ∧ (s.head h).waitingSlot = none
  due : ∀ k, s.answersDue k + holdsSlot k j ≤ if k ∈ s.engine.outstanding then 1 else 0
  unserved : ∀ k, s.engine.work.unservedSlot = some k → k ∉ s.engine.outstanding

theorem State.slotsOk_iff (s : State) : s.slotsOk ↔ s.SlotsOkWith none :=
  ⟨fun ⟨nodup, off, due, unserved⟩ => ⟨nodup, off, due, unserved⟩,
    fun ⟨nodup, off, due, unserved⟩ => ⟨nodup, off, due, unserved⟩⟩

/-- The same slots are outstanding, no further one is being taken, and no more answers are due. -/
theorem State.SlotsOkWith.pass {s t : State} {i j : Option SlotNo} (ok : s.SlotsOkWith i)
    (outstanding : t.engine.outstanding = s.engine.outstanding)
    (unserved : t.engine.work.unservedSlot = s.engine.work.unservedSlot ∨ t.engine.work.unservedSlot = none)
    (off : ∀ h, (t.head h).state = .off →
      (t.head h).hold = false ∧ (t.head h).holdPending = false ∧ (t.head h).waitingSlot = none)
    (due : ∀ k, t.answersDue k + holdsSlot k j ≤ s.answersDue k + holdsSlot k i) : t.SlotsOkWith j where
  nodup := outstanding ▸ ok.nodup
  off := off
  due k := by
    rw [outstanding]
    exact Nat.le_trans (due k) (ok.due k)
  unserved k taken := by
    rw [outstanding]
    rcases unserved with same | gone
    · exact ok.unserved k (same ▸ taken)
    · rw [gone] at taken
      cases taken

/-- The heads as they were; the rest passes. -/
theorem State.SlotsOkWith.pass_heads {s t : State} {i j : Option SlotNo} (ok : s.SlotsOkWith i) (heads : t.heads = s.heads)
    (outstanding : t.engine.outstanding = s.engine.outstanding)
    (unserved : t.engine.work.unservedSlot = s.engine.work.unservedSlot ∨ t.engine.work.unservedSlot = none)
    (due : ∀ k, t.answersDue k + holdsSlot k j ≤ s.answersDue k + holdsSlot k i) : t.SlotsOkWith j :=
  ok.pass outstanding unserved (fun h => by rw [State.head, heads]; exact ok.off h) due

/-- Nothing that the promise speaks of changes. -/
theorem State.SlotsOkWith.same {s t : State} {j : Option SlotNo} (ok : s.SlotsOkWith j) (heads : t.heads = s.heads)
    (ctx : t.ctx = s.ctx) (menus : t.menus = s.menus) (pens : t.pens = s.pens) (engine : t.engine = s.engine) :
    t.SlotsOkWith j :=
  ok.pass_heads heads (by rw [engine]) (.inl (by rw [engine])) fun k => by
    simp only [State.answersDue_eq, heads, ctx, menus, pens, engine, Nat.le_refl]

theorem State.answersDue_answer (s : State) (slot : SlotNo) (code value : Word) (k : SlotNo) :
    (s.answer slot code value).answersDue k = s.answersDue k + holdsSlot k (some slot) := by
  simp only [State.answersDue_eq, State.answer, State.setEngine, resultsDue_append]
  omega

/-- The answer that was still to come is given. -/
theorem State.SlotsOkWith.answer {s : State} {slot : SlotNo} (ok : s.SlotsOkWith (some slot)) (code value : Word) :
    (s.answer slot code value).SlotsOkWith none :=
  ok.pass_heads rfl rfl (.inl rfl) fun k => by
    rw [State.answersDue_answer]
    exact Nat.le_refl _

theorem State.answersDue_setPen (s : State) (p : Pen) (c : PenChannel) (k : SlotNo) :
    (s.setPen p c).answersDue k + holdsSlot k (s.pen p).calibSlot = s.answersDue k + holdsSlot k c.calibSlot := by
  have moved := PerPen.due_set PenChannel.calibSlot s.pens p c k
  simp only [State.answersDue_eq, State.setPen, State.pen]
  omega

theorem State.answersDue_setMenu (s : State) (h : Head) (m : MenuUnit) (k : SlotNo) :
    (s.setMenu h m).answersDue k + holdsSlot k (s.menu h).servedSlot = s.answersDue k + holdsSlot k m.servedSlot := by
  have moved := PerHead.due_set MenuUnit.servedSlot s.menus h m k
  simp only [State.answersDue_eq, State.setMenu, State.menu]
  omega

theorem State.answersDue_setStore (s : State) (h : Head) (c : CtxStore) (k : SlotNo) :
    (s.setStore h c).answersDue k + holdsSlot k (s.store h).switchPending =
      s.answersDue k + holdsSlot k c.switchPending := by
  have moved := PerHead.due_set CtxStore.switchPending s.ctx h c k
  simp only [State.answersDue_eq, State.setStore, State.store]
  omega

theorem State.answersDue_setHead (s : State) (h : Head) (x : HeadRx) (k : SlotNo) :
    (s.setHead h x).answersDue k + holdsSlot k (s.head h).waitingSlot = s.answersDue k + holdsSlot k x.waitingSlot := by
  have moved := PerHead.due_set HeadRx.waitingSlot s.heads h x k
  simp only [State.answersDue_eq, State.setHead, State.head]
  omega

theorem State.answersDue_work (s : State) (w : Work) (k : SlotNo) :
    (s.work w).answersDue k + holdsSlot k s.engine.work.busySlot = s.answersDue k + holdsSlot k w.busySlot := by
  simp only [State.answersDue_eq, State.work, State.setEngine]
  omega

section
variable {s : State} {i j : Option SlotNo}

/-- A pen changes, and hands on the slot of its calibration if it gives it up. -/
theorem State.SlotsOkWith.setPen (ok : s.SlotsOkWith i) (p : Pen) (c : PenChannel)
    (due : ∀ k, holdsSlot k c.calibSlot + holdsSlot k j ≤ holdsSlot k (s.pen p).calibSlot + holdsSlot k i) :
    (s.setPen p c).SlotsOkWith j :=
  ok.pass_heads rfl rfl (.inl rfl) fun k => by
    have moved := s.answersDue_setPen p c k
    have given := due k
    omega

theorem State.SlotsOkWith.setMenu (ok : s.SlotsOkWith i) (h : Head) (m : MenuUnit)
    (due : ∀ k, holdsSlot k m.servedSlot + holdsSlot k j ≤ holdsSlot k (s.menu h).servedSlot + holdsSlot k i) :
    (s.setMenu h m).SlotsOkWith j :=
  ok.pass_heads rfl rfl (.inl rfl) fun k => by
    have moved := s.answersDue_setMenu h m k
    have given := due k
    omega

theorem State.SlotsOkWith.setStore (ok : s.SlotsOkWith i) (h : Head) (c : CtxStore)
    (due : ∀ k, holdsSlot k c.switchPending + holdsSlot k j ≤ holdsSlot k (s.store h).switchPending + holdsSlot k i) :
    (s.setStore h c).SlotsOkWith j :=
  ok.pass_heads rfl rfl (.inl rfl) fun k => by
    have moved := s.answersDue_setStore h c k
    have given := due k
    omega

theorem State.SlotsOkWith.setHead (ok : s.SlotsOkWith i) (h : Head) (x : HeadRx)
    (off : x.state = .off → x.hold = false ∧ x.holdPending = false ∧ x.waitingSlot = none)
    (due : ∀ k, holdsSlot k x.waitingSlot + holdsSlot k j ≤ holdsSlot k (s.head h).waitingSlot + holdsSlot k i) :
    (s.setHead h x).SlotsOkWith j := by
  refine ok.pass rfl (.inl rfl) (fun g => ?_) fun k => ?_
  · rw [State.head_setHead]
    split
    case isTrue => exact off
    case isFalse => exact ok.off g
  · have moved := s.answersDue_setHead h x k
    have given := due k
    omega

/-- The engine's work changes, and hands on the slot that it serves if it gives it up. -/
theorem State.SlotsOkWith.work (ok : s.SlotsOkWith i) (w : Work)
    (unserved : w.unservedSlot = s.engine.work.unservedSlot ∨ w.unservedSlot = none)
    (due : ∀ k, holdsSlot k w.busySlot + holdsSlot k j ≤ holdsSlot k s.engine.work.busySlot + holdsSlot k i) :
    (s.work w).SlotsOkWith j :=
  ok.pass_heads rfl rfl unserved fun k => by
    have moved := s.answersDue_work w k
    have given := due k
    omega

theorem State.SlotsOkWith.passOn (ok : s.SlotsOkWith i)
    (due : ∀ k, holdsSlot k j ≤ holdsSlot k s.engine.work.busySlot + holdsSlot k i) : s.passOn.SlotsOkWith j :=
  ok.pass_heads rfl rfl (.inr rfl) fun k => by
    have given := due k
    have none_served : holdsSlot k s.engine.passOn.work.busySlot = 0 := rfl
    simp only [State.answersDue_eq, State.passOn, State.setEngine, none_served]
    show resultsDue s.engine.results k + _ + _ + _ + _ + _ + _ ≤ _
    omega

/-- The engine answers the request that it took or that it serves. -/
theorem State.SlotsOkWith.reply (ok : s.SlotsOkWith i) {slot : SlotNo}
    (served : i = some slot ∨ i = none ∧ s.engine.work.busySlot = some slot) (code value : Word) :
    (s.reply slot code value).SlotsOkWith none := by
  have answered : ((s.answer slot code value).passOn).SlotsOkWith none := by
    refine ok.pass_heads rfl rfl (.inr rfl) fun k => ?_
    have none_served : holdsSlot k (s.answer slot code value).passOn.engine.work.busySlot = 0 := rfl
    have results : resultsDue (s.answer slot code value).passOn.engine.results k =
        resultsDue s.engine.results k + holdsSlot k (some slot) := resultsDue_append _ _ _ _ _
    have rest : (s.answer slot code value).passOn.answersDue k =
        resultsDue s.engine.results k + holdsSlot k (some slot) + s.heads.due HeadRx.waitingSlot k +
        s.ctx.due CtxStore.switchPending k + s.menus.due MenuUnit.servedSlot k + s.pens.due PenChannel.calibSlot k := by
      rw [State.answersDue_eq, none_served, results]
      rfl
    rw [rest, State.answersDue_eq, holdsSlot_none]
    rcases served with taken | ⟨no, busy⟩
    · rw [taken]
      omega
    · rw [busy]
      omega
  exact answered

end

/-! ## The pens -/

theorem MenuUnit.servedSlot_dropAwait (m : MenuUnit) (p : Pen) :
    ({ m with load := m.load.map (fun l : PageLoad => { l with origin := l.origin.dropAwait p }) } : MenuUnit).servedSlot =
      m.servedSlot := by
  unfold MenuUnit.servedSlot
  cases m.load with
  | none => rfl
  | some l =>
    obtain ⟨_, origin, _⟩ := l
    cases origin <;> rfl

theorem MenuUnit.servedSlot_confirmed {m : MenuUnit} (p : Pen) (b : Nat) (btn : Button) (frame : Long)
    (no_load : m.load = none) : (m.confirmed p b btn frame).1.servedSlot = none := by
  have rests : m.servedSlot = none := by rw [MenuUnit.servedSlot, no_load]
  unfold MenuUnit.confirmed
  split
  case h_1 => exact rests
  case h_2 => exact rests
  case h_3 => exact rests
  case h_4 => exact rests
  case h_5 =>
    split
    case isTrue => exact rests
    case isFalse => rfl
  case h_6 =>
    split
    case h_1 => exact rests
    case h_2 => rfl

theorem slotsOk_keptByPens (j : Option SlotNo) : KeptByPens (fun s => s.SlotsOkWith j) where
  pen s p x calib ok := ok.setPen p x fun k => by
    rw [PenChannel.calibSlot, calib]
    exact Nat.le_refl _
  stage s p record ok := ok.same (by simp) (by simp) (by simp) (by simp) (by simp)
  dropAwaitOn s h p ok := ok.setMenu h _ fun k => by
    rw [MenuUnit.servedSlot_dropAwait]
  endCentreAccess s p ok := ok.same (by simp) (by simp) (by simp) (by simp) (by simp)
  flush s p next ok := ok.same (by simp) (by simp) (by simp) (by simp) (by simp)
  boundary s p ok := ok.same (by simp) (by simp) (by simp) (by simp) (by simp)
  endCalibration s p c k code value measuring slot ok := by
    have given : ((s.answer k.slot code value).setPen p (s.pen p).calibrationEnded).SlotsOkWith j := by
      refine ok.pass_heads rfl rfl (.inl rfl) fun n => ?_
      have moved := (s.answer k.slot code value).answersDue_setPen p (s.pen p).calibrationEnded n
      have answered := s.answersDue_answer k.slot code value n
      have had : ((s.answer k.slot code value).pen p).calibSlot = some k.slot := by
        show (s.pen p).calibSlot = _
        rw [PenChannel.calibSlot, measuring, slot]
        rfl
      have has : (s.pen p).calibrationEnded.calibSlot = none := rfl
      rw [had, has, holdsSlot_none] at moved
      omega
    exact given
  confirmed s p h b btn frame no_load _ ok := ok.setMenu h _ fun k => by
    rw [MenuUnit.servedSlot_confirmed p b btn frame no_load, holdsSlot_none]
    omega
  pagesTaken s p pg _ ok := ok.same (by simp) (by simp) (by simp) (by simp) (by simp)
  pagesHeld s p pg ok := ok.same rfl rfl rfl rfl rfl

/-! ## The heads -/

section
variable {s : State} {j : Option SlotNo}

theorem State.SlotsOkWith.boundarySwitch (ok : s.SlotsOkWith none) (h : Head) : (s.boundarySwitch h).SlotsOkWith none := by
  unfold State.boundarySwitch
  split
  case h_1 => exact ok
  case h_2 slot pending =>
    refine State.SlotsOkWith.answer ?_ _ _
    refine State.forPensOn_induct (I := fun t => t.SlotsOkWith (some slot))
      (fun t p _ ok => (slotsOk_keptByPens (some slot)).switchPen p ok) (ok.setStore h _ fun k => ?_)
    rw [pending]
    exact holdsSlot_handedOn k (some slot) none

theorem State.SlotsOkWith.abortSwitch (ok : s.SlotsOkWith none) (h : Head) : (s.abortSwitch h).SlotsOkWith none := by
  unfold State.abortSwitch
  split
  case h_1 => exact ok
  case h_2 slot pending =>
    refine State.SlotsOkWith.answer (ok.setStore h _ fun k => ?_) _ _
    rw [pending]
    exact holdsSlot_handedOn k (some slot) none

/-- A head whose pending change is taken over or given up hands on its waiting slot. -/
theorem State.SlotsOkWith.answerWaiting (ok : s.SlotsOkWith none) (h : Head) {x y : HeadRx}
    (waiting : (s.head h).waitingSlot = x.waitingSlot) (live : y.state ≠ .off)
    (released : y.waitingSlot = if x.holdPending then none else x.waitingSlot) :
    ((s.setHead h y).answerWaiting x).SlotsOkWith none := by
  have off : y.state = .off → y.hold = false ∧ y.holdPending = false ∧ y.waitingSlot = none := fun off => absurd off live
  unfold State.answerWaiting
  split
  case h_1 slot pending waits =>
    refine State.SlotsOkWith.answer (ok.setHead h y off fun k => ?_) _ _
    rw [released, pending, waiting, waits, if_pos rfl, holdsSlot_none]
    omega
  case h_2 =>
    refine ok.setHead h y off fun k => ?_
    rw [released, waiting]
    split <;> simp

theorem State.SlotsOkWith.scanEvent (ok : s.SlotsOkWith j) (scanPending : Bool) (scan : Option ScanPos) :
    (s.setEngine { s.engine with scanPending := scanPending, scan := scan }).SlotsOkWith j :=
  ok.pass_heads rfl rfl (.inl rfl) fun k => by
    simp only [State.answersDue_eq, State.setEngine]
    omega

/-- The receiver's own part of a frame start leaves its pending change to `frameSignal`. -/
theorem State.SlotsOkWith.frameSignal (ok : s.SlotsOkWith none) (h : Head) {x : HeadRx} (boundary sync : Bool)
    (waiting : x.waitingSlot = (s.head h).waitingSlot) (live : x.state ≠ .off) :
    ((s.setHead h x).frameSignal h boundary sync).SlotsOkWith none := by
  have applied : x.applyPending.waitingSlot = if x.holdPending then none else x.waitingSlot := by
    unfold HeadRx.applyPending
    split <;> rfl
  have applied_live : x.applyPending.state ≠ .off := by
    unfold HeadRx.applyPending
    split <;> exact live
  have signalled : ((s.setHead h x).signalled h boundary sync).SlotsOkWith none := by
    refine State.forPensOn_induct (I := fun t => t.SlotsOkWith none)
      (fun t p _ ok => (slotsOk_keptByPens none).signalPen _ _ _ _ p ok) ?_
    rw [State.head_setHead_self, show (s.setHead h x).setHead h x.applyPending = s.setHead h x.applyPending by
      simp only [State.setHead, PerHead.set_set]]
    exact ok.answerWaiting h waiting.symm applied_live applied
  rw [State.frameSignal_eq]
  refine State.SlotsOkWith.scanEvent ?_ true _
  split
  case isTrue => exact signalled.boundarySwitch h
  case isFalse => exact signalled

theorem State.SlotsOkWith.frameStart (ok : s.SlotsOkWith none) {h : Head} (synced : (s.head h).state = .synced) :
    (s.frameStart h).SlotsOkWith none :=
  ok.frameSignal h _ _ rfl (show (s.head h).state ≠ .off by rw [synced]; exact HeadState.noConfusion)

theorem State.SlotsOkWith.syncFrameStart (ok : s.SlotsOkWith none) (h : Head) : (s.syncFrameStart h).SlotsOkWith none :=
  ok.frameSignal h _ _ rfl HeadState.noConfusion

theorem State.SlotsOkWith.loseLink (ok : s.SlotsOkWith none) (h : Head) : (s.loseLink h).SlotsOkWith none := by
  unfold State.loseLink
  dsimp only
  split
  case isFalse => exact ok
  case isTrue =>
    refine State.forPensOn_induct (I := fun t => t.SlotsOkWith none)
      (fun t p _ ok => (slotsOk_keptByPens none).penLoss _ p ok) ?_
    have sought := ok.setHead (j := none) h
      { (s.head h).seek with linkTimer := Config.linkTimeout, linkLosses := satInc (s.head h).linkLosses }
      HeadState.noConfusion fun k => Nat.le_refl _
    exact sought.same rfl rfl rfl rfl rfl

theorem State.SlotsOkWith.disableHead (ok : s.SlotsOkWith none) (h : Head) : (s.disableHead h).SlotsOkWith none := by
  have disabled : ∀ j, (∀ k, holdsSlot k j ≤ holdsSlot k (s.head h).waitingSlot) →
      (s.setHead h (s.head h).disable).SlotsOkWith j := fun j due =>
    ok.setHead h _ (fun _ => ⟨rfl, rfl, rfl⟩) fun k => by
      have waited := due k
      show 0 + _ ≤ _
      omega
  unfold State.disableHead
  dsimp only
  split
  case isTrue => exact ok
  case isFalse =>
    refine State.SlotsOkWith.abortSwitch
      (State.forPensOn_induct (I := fun t => t.SlotsOkWith none)
      (fun t p _ ok => (slotsOk_keptByPens none).penLoss _ p ok) ?_) h
    split
    case h_1 slot _ waits =>
      have given := disabled (some slot) fun k => by rw [waits]
      split
      · exact given.answer _ _
      · exact given.answer _ _
    case h_2 => exact disabled none fun k => Nat.zero_le _

end

/-! ## Requests -/

section
variable {s : State} {slot : SlotNo} (ok : s.SlotsOkWith (some slot)) (idle : s.engine.work = .none)
include ok

theorem State.SlotsOkWith.doLoadContext (ws : List Word) : (s.doLoadContext slot ws).SlotsOkWith none := by
  have replied : ∀ code value, (s.reply slot code value).SlotsOkWith none := fun _ _ => ok.reply (.inl rfl) _ _
  unfold State.doLoadContext
  dsimp only
  split
  case h_2 => exact replied _ _
  case h_1 h c _ _ =>
    split
    case isTrue => exact replied _ _
    case isFalse =>
      split
      case isTrue => exact replied _ _
      case isFalse =>
        split
        case isTrue => exact replied _ _
        case isFalse =>
          have loading : (s.setCtxSlot h c { state := .loading, words := [] }).SlotsOkWith (some slot) :=
            ok.setStore h _ fun k => by rw [CtxStore.setSlot_switchPending]
          exact loading.work _ (.inr rfl) fun k => holdsSlot_takenOver k _ _

theorem State.SlotsOkWith.doSwitchContext (ws : List Word) : (s.doSwitchContext slot ws).SlotsOkWith none := by
  have replied : ∀ code value, (s.reply slot code value).SlotsOkWith none := fun _ _ => ok.reply (.inl rfl) _ _
  unfold State.doSwitchContext
  dsimp only
  split
  case h_2 => exact replied _ _
  case h_1 h _ =>
    split
    case isTrue => exact replied _ _
    case isFalse =>
      split
      case isTrue => exact replied _ _
      case isFalse =>
        have recorded : (s.setStore h { s.store h with switchPending := some slot }).SlotsOkWith none :=
          ok.setStore h _ fun k => holdsSlot_takenOver k _ _
        exact recorded.passOn fun k => Nat.zero_le _

theorem State.SlotsOkWith.doArmPen (ws : List Word) (port : s.port = none) : (s.doArmPen slot ws).SlotsOkWith none := by
  have replied : ∀ code value, (s.reply slot code value).SlotsOkWith none := fun _ _ => ok.reply (.inl rfl) _ _
  unfold State.doArmPen
  split
  case h_1 => exact replied _ _
  case h_2 rq _ =>
    split
    case isTrue => exact replied _ _
    case isFalse =>
      split
      case h_1 => exact ((slotsOk_keptByPens _).arm rq none port ok).reply (.inl rfl) _ _
      case h_2 =>
        exact ok.work _ (.inr rfl) fun k => holdsSlot_takenOver k _ _

theorem State.SlotsOkWith.doDisarmPen (ws : List Word) : (s.doDisarmPen slot ws).SlotsOkWith none := by
  unfold State.doDisarmPen
  split
  case h_1 => exact ok.reply (.inl rfl) _ _
  case h_2 p _ =>
    have disturbed := (slotsOk_keptByPens _).disturb p ok
    have disarmed : State.SlotsOkWith
        (if ((s.disturb p).pen p).state = .armed then (s.disturb p).disarm p else s.disturb p) (some slot) := by
      split
      case isTrue => exact (slotsOk_keptByPens _).disarm p disturbed
      case isFalse => exact disturbed
    exact disarmed.reply (.inl rfl) _ _

theorem State.SlotsOkWith.doMoveCross (ws : List Word) : (s.doMoveCross slot ws).SlotsOkWith none := by
  have replied : ∀ code value, (s.reply slot code value).SlotsOkWith none := fun _ _ => ok.reply (.inl rfl) _ _
  unfold State.doMoveCross
  dsimp only
  split
  case h_1 => exact replied _ _
  case h_2 p _ =>
    split
    case isTrue => exact replied _ _
    case isFalse =>
      split
      case h_1 => exact replied _ _
      case h_2 => exact replied _ _
      case h_3 => exact replied _ _
      case h_4 =>
        have moved := (slotsOk_keptByPens _).own p
          (x := { s.pen p with track := (s.pen p).track.moveCross (arg ws 5).toNat (arg ws 6).toNat }) rfl ok
        exact moved.reply (.inl rfl) _ _

theorem State.SlotsOkWith.doCalibratePen (ws : List Word) : (s.doCalibratePen slot ws).SlotsOkWith none := by
  have replied : ∀ code value, (s.reply slot code value).SlotsOkWith none := fun _ _ => ok.reply (.inl rfl) _ _
  unfold State.doCalibratePen
  dsimp only
  split
  case h_1 => exact replied _ _
  case h_2 p _ =>
    split
    case isTrue => exact replied _ _
    case isFalse =>
      split
      case isTrue => exact replied _ _
      case isFalse =>
        split
        case isTrue => exact replied _ _
        case isFalse =>
          split
          case isTrue => exact replied _ _
          case isFalse =>
            have measuring := ok.setPen (j := none) p
              { s.pen p with window := .opened, calib := some (.fresh slot), state := .calibrating } fun k => holdsSlot_takenOver k _ _
            exact measuring.passOn fun k => Nat.zero_le _

theorem State.SlotsOkWith.doSetMenuPage (ws : List Word) : (s.doSetMenuPage slot ws).SlotsOkWith none := by
  have replied : ∀ code value, (s.reply slot code value).SlotsOkWith none := fun _ _ => ok.reply (.inl rfl) _ _
  unfold State.doSetMenuPage
  dsimp only
  split
  case h_1 => exact replied _ _
  case h_2 h _ =>
    split
    case isTrue => exact replied _ _
    case isFalse =>
      split
      case isTrue => exact replied _ _
      case isFalse =>
        split
        case isTrue => exact replied _ _
        case isFalse =>
          have loading := ok.setMenu (j := none) h
            ((s.menu h).startLoad (arg ws 5).toNat (.setPage slot (decide ((arg ws 6).toNat = 1)))) fun k => holdsSlot_takenOver k _ _
          exact loading.passOn fun k => Nat.zero_le _

/-- The older request that waited is cancelled, and the newer one is answered (R9, R10). -/
theorem State.SlotsOkWith.cancelWaiting (h : Head)
    (live : (s.head h).state = .off → (s.head h).hold = false) {w : SlotNo} (waits : (s.head h).waitingSlot = some w)
    (first second : Word) :
    (((s.setHead h { s.head h with holdPending := false, waitingSlot := none }).answer w first 0).answer slot
      second 0).SlotsOkWith none := by
  refine ok.pass rfl (.inl rfl) (fun g => ?_) fun k => ?_
  · have heads : ∀ t : State, ((t.answer w first 0).answer slot second 0).head g = t.head g := fun _ => rfl
    rw [heads, State.head_setHead]
    split
    case isTrue => exact fun off => ⟨live off, rfl, rfl⟩
    case isFalse => exact ok.off g
  · have moved := s.answersDue_setHead h { s.head h with holdPending := false, waitingSlot := none } k
    rw [waits] at moved
    rw [State.answersDue_answer, State.answersDue_answer, holdsSlot_none]
    rw [holdsSlot_none] at moved
    omega

theorem State.SlotsOkWith.noneWaiting (h : Head) (live : (s.head h).state = .off → (s.head h).hold = false) (code : Word) :
    ((s.setHead h { s.head h with holdPending := false, waitingSlot := none }).answer slot code 0).SlotsOkWith none :=
  (ok.setHead h { s.head h with holdPending := false, waitingSlot := none } (fun off => ⟨live off, rfl, rfl⟩)
    fun k => holdsSlot_givenUp k _ _).answer _ _

theorem State.SlotsOkWith.holdRequest (h : Head) : (s.holdRequest h slot).SlotsOkWith none := by
  have answered : ∀ code, (s.answer slot code 0).SlotsOkWith none := fun _ => ok.answer _ _
  unfold State.holdRequest
  dsimp only
  split
  case isTrue => exact answered _
  case isFalse live =>
    split
    case h_1 => exact ok.setHead h _ (fun off => absurd off live) fun k => holdsSlot_takenOver k _ _
    case h_2 => exact answered _
    case h_3 => exact answered _
    case h_4 =>
      split
      case h_1 w waits => exact ok.cancelWaiting h (fun off => absurd off live) waits _ _
      case h_2 => exact ok.noneWaiting h (fun off => absurd off live) _

theorem State.SlotsOkWith.releaseRequest (h : Head) : (s.releaseRequest h slot).SlotsOkWith none := by
  have answered : ∀ code, (s.answer slot code 0).SlotsOkWith none := fun _ => ok.answer _ _
  unfold State.releaseRequest
  dsimp only
  split
  case h_1 held _ =>
    have live : (s.head h).state ≠ .off := fun off => by
      rw [(ok.off h off).1] at held
      cases held
    exact ok.setHead h _ (fun off => absurd off live) fun k => holdsSlot_takenOver k _ _
  case h_2 => exact answered _
  case h_3 free _ =>
    split
    case h_1 w waits => exact ok.cancelWaiting h (fun _ => free) waits _ _
    case h_2 => exact ok.noneWaiting h (fun _ => free) _
  case h_4 => exact answered _

theorem State.SlotsOkWith.doHoldHead (ws : List Word) : (s.doHoldHead slot ws).SlotsOkWith none := by
  unfold State.doHoldHead
  split
  case h_1 => exact ok.reply (.inl rfl) _ _
  case h_2 h _ => exact (ok.holdRequest h).passOn fun k => Nat.zero_le _

theorem State.SlotsOkWith.doReleaseHead (ws : List Word) : (s.doReleaseHead slot ws).SlotsOkWith none := by
  unfold State.doReleaseHead
  split
  case h_1 => exact ok.reply (.inl rfl) _ _
  case h_2 h _ => exact (ok.releaseRequest h).passOn fun k => Nat.zero_le _

theorem State.SlotsOkWith.doReadCounters (ws : List Word) : (s.doReadCounters slot ws).SlotsOkWith none := by
  unfold State.doReadCounters
  dsimp only
  split
  case isTrue => exact ok.reply (.inl rfl) _ _
  case isFalse => exact ok.work _ (.inr rfl) fun k => holdsSlot_takenOver k _ _

theorem State.SlotsOkWith.serve (port : s.port = none) (kind : Option Kind) (ws : List Word) :
    (s.serve kind slot ws).SlotsOkWith none := by
  cases kind with
  | none => exact ok.reply (.inl rfl) _ _
  | some kind =>
    cases kind with
    | loadContext => exact ok.doLoadContext ws
    | switchContext => exact ok.doSwitchContext ws
    | armPen => exact ok.doArmPen ws port
    | disarmPen => exact ok.doDisarmPen ws
    | moveCross => exact ok.doMoveCross ws
    | calibratePen => exact ok.doCalibratePen ws
    | setMenuPage => exact ok.doSetMenuPage ws
    | holdHead => exact ok.doHoldHead ws
    | releaseHead => exact ok.doReleaseHead ws
    | readCounters => exact ok.doReadCounters ws

end

/-! ## The ends of the accesses -/

section
variable {s : State} (ok : s.SlotsOkWith none)
include ok

/-- A slot that is not outstanding has no answer due, and joins the set owing its own. -/
theorem State.SlotsOkWith.joinOutstanding {slot : SlotNo} {ws : List Word} (taking : s.engine.work = .taking slot ws) :
    (s.joinOutstanding slot).SlotsOkWith (some slot) where
  nodup := by
    have fresh : slot ∉ s.engine.outstanding := ok.unserved slot (by rw [taking]; rfl)
    exact List.nodup_append.2 ⟨ok.nodup, by simp, by
      intro a outstanding b single
      rw [List.mem_singleton.1 single]
      exact fun same => fresh (same ▸ outstanding)⟩
  off := ok.off
  due k := by
    have fresh : slot ∉ s.engine.outstanding := ok.unserved slot (by rw [taking]; rfl)
    have before := ok.due k
    have same : (s.joinOutstanding slot).answersDue k = s.answersDue k := by
      have busy : s.engine.work.busySlot = none := by rw [taking]; rfl
      simp only [State.answersDue_eq, busy]
      rfl
    have joined : k ∈ (s.joinOutstanding slot).engine.outstanding ↔ k ∈ s.engine.outstanding ∨ k = slot :=
      List.mem_append.trans (or_congr_right List.mem_singleton)
    rw [same]
    by_cases is : k = slot
    · subst is
      rw [if_neg fresh] at before
      rw [if_pos (joined.2 (.inr rfl)), show holdsSlot k (some k) = 1 from if_pos rfl]
      omega
    · rw [show holdsSlot k (some slot) = 0 from if_neg fun same => is (Option.some.inj same).symm]
      simp only [joined, is, or_false]
      exact before
  unserved _ taken := by cases taken

theorem State.SlotsOkWith.takenDone (port : s.port = none) (kind : Option Kind) : (s.takenDone kind).SlotsOkWith none := by
  unfold State.takenDone
  split
  case h_1 slot ws taking => exact (ok.joinOutstanding taking).serve port kind ws
  case h_2 => exact ok

theorem State.SlotsOkWith.gaveUp : s.passOn.SlotsOkWith none := ok.passOn fun _ => Nat.zero_le _

theorem State.SlotsOkWith.takenFailed : s.takenFailed.SlotsOkWith none := by
  unfold State.takenFailed
  split
  case h_1 => exact ok.gaveUp
  case h_2 => exact ok

theorem State.SlotsOkWith.stateWordRead (slot : SlotNo) (w : Word) : (s.stateWordRead slot w).SlotsOkWith none := by
  unfold State.stateWordRead
  split
  case isTrue fresh =>
    have reading := ok.work (j := none) .none (.inr rfl) fun k => by
      show 0 + 0 ≤ _
      omega
    refine { reading with unserved := fun k taken => ?_ }
    obtain rfl : slot = k := Option.some.inj taken
    exact fresh.2
  case isFalse => exact ok.gaveUp

theorem State.SlotsOkWith.slotWordRead (w : Word) : (s.slotWordRead w).SlotsOkWith none := by
  unfold State.slotWordRead
  split
  case h_2 => exact ok
  case h_1 slot ws reading =>
    dsimp only
    split
    case isTrue => exact ok.work _ (.inl (by rw [reading]; rfl)) fun k => Nat.zero_le _
    case isFalse => exact ok.work _ (.inl (by rw [reading]; rfl)) fun k => Nat.zero_le _

theorem State.SlotsOkWith.fenceWordRead (port : s.port = none) (w : Word) : (s.fenceWordRead w).SlotsOkWith none := by
  unfold State.fenceWordRead
  split
  case h_2 => exact ok
  case h_1 slot ws fence fencing =>
    have busy : s.engine.work.busySlot = some slot := by rw [fencing]; rfl
    dsimp only
    split
    case isTrue => exact ok.work _ (.inr rfl) fun k => by rw [busy]; exact Nat.le_refl _
    case isFalse =>
      split
      case h_2 => exact ok.reply (.inr ⟨rfl, busy⟩) _ _
      case h_1 rq f _ _ =>
        have armed := (slotsOk_keptByPens none).arm rq (some f) port ok
        obtain ⟨-, -, same, -⟩ := s.arm_frame rq (some f)
        exact armed.reply (.inr ⟨rfl, by rw [same, busy]⟩) _ _

theorem State.SlotsOkWith.fenceFailed : s.fenceFailed.SlotsOkWith none := by
  unfold State.fenceFailed
  split
  case h_2 => exact ok
  case h_1 fencing => exact ok.reply (.inr ⟨rfl, by rw [fencing]; rfl⟩) _ _

/-- A context slot changes: nothing here depends on it. -/
theorem State.SlotsOkWith.setCtxSlot (h : Head) (c : SlotName) (x : CtxSlot) :
    (s.setCtxSlot h c x).SlotsOkWith none :=
  ok.setStore h _ fun k => by rw [CtxStore.setSlot_switchPending]

theorem State.SlotsOkWith.contextWordRead (w : Word) : (s.contextWordRead w).SlotsOkWith none := by
  unfold State.contextWordRead
  split
  case h_2 => exact ok
  case h_1 slot h c addr k loading =>
    have busy : s.engine.work.busySlot = some slot := by rw [loading]; rfl
    dsimp only
    split
    case isTrue =>
      refine (ok.setCtxSlot h c _).work _ (.inr rfl) fun k => ?_
      show holdsSlot k (some slot) + 0 ≤ holdsSlot k s.engine.work.busySlot + 0
      rw [busy]
    case isFalse =>
      split
      case h_1 => exact (ok.setCtxSlot h c _).reply (.inr ⟨rfl, busy⟩) _ _
      case h_2 => exact (ok.setCtxSlot h c _).reply (.inr ⟨rfl, busy⟩) _ _

theorem State.SlotsOkWith.contextFailed : s.contextFailed.SlotsOkWith none := by
  unfold State.contextFailed
  split
  case h_2 => exact ok
  case h_1 slot h c addr k loading =>
    exact (ok.setCtxSlot h c _).reply (.inr ⟨rfl, show s.engine.work.busySlot = _ by rw [loading]; rfl⟩) _ _

theorem State.SlotsOkWith.snapshotWritten : s.snapshotWritten.SlotsOkWith none := by
  unfold State.snapshotWritten
  split
  case h_2 => exact ok
  case h_1 slot addr clear k hi writing =>
    have busy : s.engine.work.busySlot = some slot := by rw [writing]; rfl
    split
    case isTrue => exact ok.work _ (.inr rfl) fun k => by rw [busy]; exact Nat.le_refl _
    case isFalse => exact ok.reply (.inr ⟨rfl, busy⟩) _ _

theorem State.SlotsOkWith.snapshotFailed : s.snapshotFailed.SlotsOkWith none := by
  unfold State.snapshotFailed
  split
  case h_2 => exact ok
  case h_1 writing => exact ok.reply (.inr ⟨rfl, by rw [writing]; rfl⟩) _ _

/-- The front result leaves with its slot: it was the one answer due for it. -/
theorem State.SlotsOkWith.dropResult : (s.setEngine s.engine.dropResult).SlotsOkWith none := by
  unfold Engine.dropResult
  split
  case h_1 => exact ok
  case h_2 r rs results =>
    refine ⟨ok.nodup.filter _, ok.off, fun k => ?_, fun k taken outstanding => ?_⟩
    · have before := ok.due k
      have left : k ∈ s.engine.outstanding.filter (· != r.slot) ↔ k ∈ s.engine.outstanding ∧ k ≠ r.slot := by
        rw [List.mem_filter, bne_iff_ne]
      have front : resultsDue s.engine.results k = resultsDue rs k + holdsSlot k (some r.slot) := by
        rw [results, resultsDue, resultsDue, List.countP_cons]
        simp only [holdsSlot, beq_iff_eq, Option.some.injEq]
      rw [State.answersDue_eq, front, holdsSlot_none] at before
      rw [State.answersDue_eq, holdsSlot_none]
      show resultsDue rs k + _ + _ + _ + _ + _ + _ ≤ if k ∈ s.engine.outstanding.filter (· != r.slot) then 1 else 0
      have bound : (if k ∈ s.engine.outstanding then 1 else 0) ≤
          (if k ∈ s.engine.outstanding.filter (· != r.slot) then 1 else 0) + holdsSlot k (some r.slot) := by
        by_cases is : k = r.slot
        · rw [holdsSlot, if_pos (congrArg some is.symm)]
          split <;> omega
        · simp only [left.trans (and_iff_left is)]
          exact Nat.le_add_right _ _
      simp only [State.setEngine]
      omega
    · exact ok.unserved k taken (List.mem_of_mem_filter outstanding)

theorem State.SlotsOkWith.resultWritten (k : Nat) : (s.resultWritten k).SlotsOkWith none := by
  unfold State.resultWritten
  split
  case isTrue => exact ok.pass_heads rfl rfl (.inl rfl) fun k => Nat.le_refl _
  case isFalse => exact ok.dropResult.same rfl rfl rfl rfl rfl

/-- A load hands on its slot, or answers it as it ends. -/
theorem State.SlotsOkWith.answerLoad {j : Option SlotNo} {t : State} (given : t.SlotsOkWith j) (h : Head) (l : PageLoad)
    (code : Word) (status : MenuStatus) (serves : ∀ slot clear, l.origin = .setPage slot clear → j = some slot)
    (no_slot : (∀ slot clear, l.origin ≠ .setPage slot clear) → j = none) :
    (t.answerLoad h l code status).SlotsOkWith none := by
  cases origin : l.origin with
  | setPage slot clear =>
    obtain rfl := serves slot clear origin
    simp only [State.answerLoad, origin]
    exact given.answer _ _
  | pageButton awaits =>
    obtain rfl := no_slot fun _ _ is => by rw [origin] at is; cases is
    cases awaits with
    | none => simpa only [State.answerLoad, origin] using given
    | some a =>
      simp only [State.answerLoad, origin]
      exact (slotsOk_keptByPens none).stage _ _ _ given
  | backButton awaits =>
    obtain rfl := no_slot fun _ _ is => by rw [origin] at is; cases is
    cases awaits with
    | none => simpa only [State.answerLoad, origin] using given
    | some a =>
      simp only [State.answerLoad, origin]
      exact (slotsOk_keptByPens none).stage _ _ _ given

theorem State.SlotsOkWith.loadStep {h : Head} {t : State} (stepped : LoadStep s h t) : t.SlotsOkWith none := by
  have serves : ∀ l slot clear, (s.menu h).load = some l → l.origin = .setPage slot clear →
      (s.menu h).servedSlot = some slot := fun l slot clear loading origin => by
    simp only [MenuUnit.servedSlot, loading, origin]
  have no_slot : ∀ l, (s.menu h).load = some l → (∀ slot clear, l.origin ≠ .setPage slot clear) →
      (s.menu h).servedSlot = none := fun l loading no => by
    cases origin : l.origin with
    | setPage slot clear => exact absurd origin (no slot clear)
    | pageButton => simp only [MenuUnit.servedSlot, loading, origin]
    | backButton => simp only [MenuUnit.servedSlot, loading, origin]
  have given : ∀ m : MenuUnit, m.load = none → (s.setMenu h m).SlotsOkWith (s.menu h).servedSlot := fun m gone =>
    ok.setMenu h m fun k => by
      rw [MenuUnit.servedSlot, gone]
      exact holdsSlot_handedOn k _ none
  cases stepped with
  | rests => exact ok
  | phase m _ same => exact ok.setMenu h m fun k => by rw [same]
  | failed l code status loading =>
    exact ok.answerLoad (given _ rfl) h l code status (fun slot clear => serves l slot clear loading) (no_slot l loading)
  | done l addr table loading =>
    rw [State.loadDone_eq]
    have cleared : (((s.setMenu h ((s.menu h).loaded l addr table)).clearRuns h)).SlotsOkWith (s.menu h).servedSlot :=
      State.forPensOn_induct (I := fun t => t.SlotsOkWith (s.menu h).servedSlot)
        (fun t p _ ok => State.ite_keeps (I := fun t => t.SlotsOkWith (s.menu h).servedSlot) ok
          ((slotsOk_keptByPens (s.menu h).servedSlot).clearRun p ok)) (given _ rfl)
    exact ok.answerLoad cleared h l codeOK .done (fun slot clear => serves l slot clear loading) (no_slot l loading)

/-- What ends an access leaves at most one answer due for a slot. -/
theorem State.SlotsOkWith.completion (port : s.port = none) {u : Purpose} {live : State → State}
    (completes : Completion u live) : (live s).SlotsOkWith none := by
  cases completes with
  | nothing => exact ok
  | centreWritten p second => exact (slotsOk_keptByPens none).own p rfl ok
  | centreFailed p second => exact (slotsOk_keptByPens none).own p rfl ok
  | pageRead p w => exact ok.same (by simp) (by simp) (by simp) (by simp) (by simp)
  | recordWritten p k => exact ok.same (by simp) (by simp) (by simp) (by simp) (by simp)
  | headerWritten p k => exact ok.same (by simp) (by simp) (by simp) (by simp) (by simp)
  | pageFault u p => exact ok.same (by simp) (by simp) (by simp) (by simp) (by simp)
  | loadRead h w => exact ok.loadStep (s.loadRead_step h w)
  | loadBusError h => exact ok.loadStep (s.loadBusError_step h)
  | writtenBack h i v =>
    refine ok.setMenu h _ fun k => ?_
    have same : ((s.menu h).writtenBack i v).servedSlot = (s.menu h).servedSlot := by
      unfold MenuUnit.writtenBack
      split <;> rfl
    rw [same]
  | writeBackFailed h i v => exact ok.setMenu h _ fun k => Nat.le_refl _
  | stateWordRead slot w => exact ok.stateWordRead slot w
  | passOn => exact ok.gaveUp
  | slotWordRead w => exact ok.slotWordRead w
  | takenDone kind k => exact ok.takenDone port k
  | takenFailed => exact ok.takenFailed
  | fenceWordRead w => exact ok.fenceWordRead port w
  | fenceFailed => exact ok.fenceFailed
  | contextWordRead w => exact ok.contextWordRead w
  | contextFailed => exact ok.contextFailed
  | snapshotWritten => exact ok.snapshotWritten
  | snapshotFailed => exact ok.snapshotFailed
  | resultWritten k => exact ok.resultWritten k
  | resultDropped => exact ok.dropResult

end

/-! ## The promise -/

/-- A state in which no slot is outstanding and nothing keeps the number of one. -/
theorem State.SlotsOkWith.of_rest {s : State} (outstanding : s.engine.outstanding = []) (results : s.engine.results = [])
    (work : s.engine.work = .none)
    (heads : ∀ h, (s.head h).waitingSlot = none ∧
      ((s.head h).state = .off → (s.head h).hold = false ∧ (s.head h).holdPending = false))
    (stores : ∀ h, (s.store h).switchPending = none) (menus : ∀ h, (s.menu h).load = none)
    (pens : ∀ p, (s.pen p).calib = none) : s.SlotsOkWith none where
  nodup := by rw [outstanding]; exact .nil
  off h off := ⟨((heads h).2 off).1, ((heads h).2 off).2, (heads h).1⟩
  due k := by
    have waits : s.heads.due HeadRx.waitingSlot k = 0 := by
      rw [PerHead.due, show s.heads.a.waitingSlot = none from (heads .A).1, show s.heads.b.waitingSlot = none from (heads .B).1]
      rfl
    have switches : s.ctx.due CtxStore.switchPending k = 0 := by
      rw [PerHead.due, show s.ctx.a.switchPending = none from stores .A, show s.ctx.b.switchPending = none from stores .B]
      rfl
    have loads : s.menus.due MenuUnit.servedSlot k = 0 := by
      simp only [PerHead.due, MenuUnit.servedSlot, show s.menus.a.load = none from menus .A,
        show s.menus.b.load = none from menus .B, holdsSlot_none]
    have measures : s.pens.due PenChannel.calibSlot k = 0 := by
      simp only [PerPen.due, PenChannel.calibSlot, show s.pens.p0.calib = none from pens .p0,
        show s.pens.p1.calib = none from pens .p1, show s.pens.p2.calib = none from pens .p2,
        show s.pens.p3.calib = none from pens .p3, Option.map_none, holdsSlot_none]
    rw [State.answersDue_eq, waits, switches, loads, measures, results, work]
    exact Nat.zero_le _
  unserved k taken := by
    rw [work] at taken
    cases taken

theorem slotsOkWith_keptByBlocks : KeptByBlocks (fun s => s.SlotsOkWith none) where
  regs s regs pending ok := ok.same rfl rfl rfl rfl rfl
  scan s scanPending scan ok := ok.scanEvent scanPending scan
  idle s ok := ok.same rfl rfl rfl rfl rfl
  granted s a _ _ ok := ok.same rfl rfl rfl rfl rfl
  clearPen s p j ok := (slotsOk_keptByPens none).own p (by unfold PenChannel.clearAt; split <;> rfl) ok
  highTaken s slot addr clear k hi hi' writing ok := ok.work _ (.inr rfl) fun n => by
    rw [writing]
    exact Nat.le_refl _
  receiver s h y own ok := by
    refine ok.setHead h y (fun off => ?_) fun k => ?_
    · rw [own.hold, own.holdPending, own.waitingSlot]
      exact ok.off h (own.off off)
    · rw [own.waitingSlot]
  frameStart s h synced ok := ok.frameStart synced
  syncFrameStart s h _ ok := ok.syncFrameStart h
  loseLink s h ok := ok.loseLink h
  disableHead s h ok := ok.disableHead h
  pulse s p ok := (slotsOk_keptByPens none).pulse p ok
  tipCloses s p ok := (slotsOk_keptByPens none).tipCloses p ok
  tipOpens s p ok := (slotsOk_keptByPens none).tipOpens p ok
  stopped s ok := by
    refine .of_rest rfl rfl rfl (fun h => ?_) (fun h => ?_) (fun h => ?_) fun p => ?_
    · rw [s.head_stopped h, HeadRx.runStop]
      split
      case isTrue off =>
        obtain ⟨free, settled, unwaited⟩ := ok.off h off
        exact ⟨unwaited, fun _ => ⟨free, settled⟩⟩
      case isFalse => exact ⟨rfl, fun _ => ⟨rfl, rfl⟩⟩
    · rw [s.store_stopped h]
      rfl
    · rw [s.menu_stopped h]
      rfl
    · rw [s.pen_stopped p]
      rfl
  resetBlocks s anchor port _ _ := by
    refine .of_rest rfl rfl rfl (fun h => ?_) (fun h => ?_) (fun h => ?_) fun p => ?_
    · rw [State.head_resetBlocks]
      exact ⟨rfl, fun _ => ⟨rfl, rfl⟩⟩
    · rw [State.store_resetBlocks]
      rfl
    · rw [State.menu_resetBlocks]
      rfl
    · rw [State.pen_resetBlocks]
      rfl
  closedSeq s p ok := ok.same rfl rfl rfl rfl rfl
  completion s a live _ _ completes ok := (ok.same (t := s.setPort none) rfl rfl rfl rfl rfl).completion rfl completes

/-- Settles O59: no slot has more than one answer due, as counted over the result list and every block that keeps the number of a
slot, and each block hands its slot on as it gives it up. -/
theorem slotsKept : Obligations.SlotsKept := by
  intro s t ok stepped
  rw [State.slotsOk_iff] at ok ⊢
  exact step_keeps slotsOkWith_keptByBlocks.commands ok stepped

end Sys2Proof.Machine
end

section
/-! PROOF. Every step leaves the port settled, and the blocks at rest from a stop or a reset to the next start (R167 to R169,
R178). -/

namespace Sys2Proof.Machine

open Sys2Proof

/-! ## RUN, RUNNING, RESETTING and a waiting start -/

/-- Where the machine stands between a start, a stop and a reset. -/
structure RunState where
  run : Bool
  running : Bool
  startWaiting : Bool
  resetting : Bool

/-- The registers' part in it. -/
def Regs.mode (r : Regs) : RunState := { run := r.run, running := r.running, startWaiting := r.startWaiting, resetting := r.resetting }

/-- Started, and no reset under way. -/
def State.live (s : State) : Prop := s.regs.started = true ∧ s.regs.resetting = false

theorem State.live_of_mode {s t : State} (same : t.regs.mode = s.regs.mode) (live : s.live) : t.live := by
  obtain ⟨run, running, waiting, resetting⟩ := RunState.mk.inj same
  unfold State.live Regs.started at live ⊢
  rw [run, running, waiting, resetting]
  exact live

theorem State.not_stopping_of_live {s : State} (live : s.live) : s.regs.stopping = false := by
  obtain ⟨started, -⟩ := live
  unfold Regs.started at started
  simp only [Bool.and_eq_true, Bool.not_eq_true'] at started
  obtain ⟨⟨run, -⟩, waiting⟩ := started
  rw [Regs.stopping, run, waiting]
  simp only [Bool.not_true, Bool.or_self, Bool.and_false]

section
variable (s : State) (p : Pen)

theorem State.stage_mode (record : Record) : (s.stage p record).regs.mode = s.regs.mode := by
  rw [State.stage_eq]
  rfl

theorem State.flush_mode (next : Option PageAddrs) : (s.flush p next).regs.mode = s.regs.mode := by
  rw [State.flush_eq]
  rfl

theorem modeKept_byPens (m : RunState) : KeptByPens (fun s => s.regs.mode = m) where
  pen _ _ _ _ ok := ok
  stage s p record ok := (s.stage_mode p record).trans ok
  dropAwaitOn _ _ _ ok := ok
  endCentreAccess s p ok := by
    rw [show (s.endCentreAccess p).regs = s.regs by simp]
    exact ok
  flush s p next ok := (s.flush_mode p next).trans ok
  boundary s p ok := by
    rw [State.reportBoundary_eq]
    exact ok
  endCalibration s p c k code value _ _ ok := by
    rw [show (s.endCalibration p k code value).regs = s.regs by simp]
    exact ok
  confirmed _ _ _ _ _ _ _ _ ok := ok
  pagesTaken _ _ _ _ ok := ok
  pagesHeld _ _ _ ok := ok

end

section
variable (s : State) (h : Head)

theorem State.forPensOn_mode {f : State → Pen → State} (keeps : ∀ t p, (f t p).regs.mode = t.regs.mode) :
    (s.forPensOn h f).regs.mode = s.regs.mode :=
  State.forPensOn_induct (I := fun t => t.regs.mode = s.regs.mode) (fun t p _ ok => (keeps t p).trans ok) rfl

theorem State.frameSignal_mode (boundary sync : Bool) : (s.frameSignal h boundary sync).regs.mode = s.regs.mode := by
  have signalled : (s.signalled h boundary sync).regs.mode = s.regs.mode := by
    rw [State.signalled, State.forPensOn_mode _ _ fun t p => (modeKept_byPens _).signalPen _ _ _ _ p rfl]
    rw [show ((s.setHead h (s.head h).applyPending).answerWaiting (s.head h)).regs = s.regs by simp]
  rw [State.frameSignal_eq, State.setEngine_regs]
  split
  case isTrue => rw [show ∀ t : State, (t.boundarySwitch h).regs = t.regs from fun t => by simp, signalled]
  case isFalse => exact signalled

theorem State.loseLink_mode : (s.loseLink h).regs.mode = s.regs.mode := by
  unfold State.loseLink
  dsimp only
  split
  case isTrue => exact State.forPensOn_mode _ _ fun t p => (modeKept_byPens _).penLoss _ p rfl
  case isFalse => rfl

theorem State.disableHead_mode : (s.disableHead h).regs.mode = s.regs.mode := by
  unfold State.disableHead
  dsimp only
  split
  case isTrue => rfl
  case isFalse =>
    rw [show ∀ t : State, (t.abortSwitch h).regs = t.regs from fun t => by simp,
      State.forPensOn_mode _ _ fun t p => (modeKept_byPens _).penLoss _ p rfl]
    split
    case h_1 => split <;> rfl
    case h_2 => rfl

theorem State.strobe_mode (w : Word) (parity : Bool) : (s.strobe h w parity).regs.mode = s.regs.mode := by
  rcases s.strobe_cases h w parity with ⟨y, -, eq⟩ | ⟨y, -, -, eq⟩ | ⟨y, -, -, eq⟩
  · rw [eq]
    rfl
  · rw [eq]
    exact State.frameSignal_mode _ h _ _
  · rw [eq]
    exact State.frameSignal_mode _ h _ _

theorem State.tickHead_mode : (s.tickHead h).regs.mode = s.regs.mode := by
  obtain ⟨y, -, eq | eq⟩ := s.tickHead_cases h
  · rw [eq]
    rfl
  · rw [eq]
    exact State.loseLink_mode _ h

end

theorem State.answerLoad_mode (s : State) (h : Head) (l : PageLoad) (code : Word) (status : MenuStatus) :
    (s.answerLoad h l code status).regs.mode = s.regs.mode := by
  cases origin : l.origin with
  | setPage slot clear => simp only [State.answerLoad, origin, State.answer, State.setEngine]
  | pageButton awaits => cases awaits <;> simp only [State.answerLoad, origin, State.stage_mode]
  | backButton awaits => cases awaits <;> simp only [State.answerLoad, origin, State.stage_mode]

theorem LoadStep.mode {s t : State} {h : Head} (stepped : LoadStep s h t) : t.regs.mode = s.regs.mode := by
  cases stepped with
  | rests => rfl
  | phase => rfl
  | failed => exact State.answerLoad_mode _ _ _ _ _
  | done =>
    rw [State.loadDone_eq, State.answerLoad_mode, State.clearRuns]
    exact State.forPensOn_mode _ _ fun t p => State.ite_keeps (I := fun u => u.regs.mode = t.regs.mode) rfl rfl

theorem State.serve_mode (s : State) (kind : Option Kind) (slot : SlotNo) (ws : List Word) (idle : s.port = none) :
    (s.serve kind slot ws).regs.mode = s.regs.mode := by
  cases kind with
  | none => exact congrArg Regs.mode (by simp [State.serve])
  | some kind =>
    cases kind with
    | armPen =>
      show (s.doArmPen slot ws).regs.mode = _
      unfold State.doArmPen
      split
      case h_1 => rfl
      case h_2 rq _ =>
        split
        case isTrue => rfl
        case isFalse =>
          split
          case h_1 => exact (modeKept_byPens s.regs.mode).arm rq none idle rfl
          case h_2 => rfl
    | disarmPen =>
      show (s.doDisarmPen slot ws).regs.mode = _
      unfold State.doDisarmPen
      split
      case h_1 => rfl
      case h_2 p _ =>
        have disturbed : (s.disturb p).regs.mode = s.regs.mode := (modeKept_byPens s.regs.mode).disturb p rfl
        dsimp only
        split
        case isTrue => exact (modeKept_byPens s.regs.mode).disarm p disturbed
        case isFalse => exact disturbed
    | _ => exact congrArg Regs.mode (by simp [State.serve])

/-- The end of an access neither starts, stops nor resets. -/
theorem Completion.mode {u : Purpose} {live : State → State} (completes : Completion u live) (t : State)
    (idle : t.port = none) : (live t).regs.mode = t.regs.mode := by
  cases completes with
  | pageRead p w => beta_reduce; rw [State.pageRead_eq]; rfl
  | recordWritten p k => beta_reduce; rw [State.recordWritten_eq]; rfl
  | headerWritten p k => beta_reduce; rw [State.headerWritten_eq]; split <;> rfl
  | pageFault u p => beta_reduce; rw [State.pageFault_eq]; rfl
  | loadRead h w => exact (t.loadRead_step h w).mode
  | loadBusError h => exact (t.loadBusError_step h).mode
  | takenDone kind k =>
    beta_reduce
    unfold State.takenDone
    split
    case h_1 => exact State.serve_mode _ _ _ _ idle
    case h_2 => rfl
  | takenFailed =>
    beta_reduce
    unfold State.takenFailed
    split <;> rfl
  | fenceWordRead w =>
    beta_reduce
    unfold State.fenceWordRead
    split
    case h_2 => rfl
    case h_1 =>
      dsimp only
      split
      case isTrue => rfl
      case isFalse =>
        split
        case h_1 rq f _ _ => exact (modeKept_byPens t.regs.mode).arm rq (some f) idle rfl
        case h_2 => rfl
  | resultWritten k =>
    beta_reduce
    unfold State.resultWritten
    split <;> rfl
  | nothing => rfl
  | centreWritten => rfl
  | centreFailed => rfl
  | writtenBack => rfl
  | writeBackFailed => rfl
  | passOn => rfl
  | resultDropped => rfl
  | _ => exact congrArg Regs.mode (by simp)

/-! ## A settled port -/

/-- The port has an access in flight, or no requester waits (R178). -/
def State.settled (s : State) : Prop := s.port = none → s.firstWaiting = none

theorem State.takeSnapshotWord_port (s : State) : s.takeSnapshotWord.port = s.port := by simp

theorem State.grant_settled (s : State) : s.grant.settled := by
  unfold State.grant
  split
  case h_1 a granted =>
    intro idle
    rw [granted] at idle
    cases idle
  case h_2 =>
    split
    case h_1 waits => exact fun _ => waits
    case h_2 a waits =>
      intro idle
      dsimp only at idle
      split at idle
      case isTrue =>
        rw [State.takeSnapshotWord_port] at idle
        cases idle
      case isFalse => cases idle

theorem State.grant_mode (s : State) : s.grant.regs.mode = s.regs.mode := congrArg Regs.mode (by simp)

theorem State.grant_of_settled {s : State} (settled : s.settled) : s.grant = s := by
  unfold State.grant
  split
  case h_1 => rfl
  case h_2 idle => rw [settled idle]

/-- The unit waits for nothing (R109, R126). -/
def MenuUnit.rests (m : MenuUnit) : Prop :=
  match m.dirty, m.current with
  | _ :: _, some _ => False
  | _ :: _, none => True
  | [], _ => m.load = none

theorem State.menuWaits_eq_none (s : State) (h : Head) : s.menuWaits h = none ↔ (s.menu h).rests := by
  unfold State.menuWaits MenuUnit.rests
  cases dirty : (s.menu h).dirty with
  | nil => simp only [dirty, Option.map_eq_none_iff]
  | cons i l => cases current : (s.menu h).current <;> simp only [dirty, current, reduceCtorEq]

/-- The engine waits for nothing (R172, R174). -/
def Engine.rests (e : Engine) : Prop := e.results = [] ∧ e.work = .none ∧ e.scan = none

theorem State.engineWaits_eq_none (s : State) : s.engineWaits = none ↔ s.engine.rests := by
  unfold State.engineWaits Engine.rests
  cases results : s.engine.results with
  | cons r rs => simp only [reduceCtorEq, false_and]
  | nil =>
    simp only [true_and, State.workWaits]
    cases work : s.engine.work <;> simp only [reduceCtorEq, false_and, true_and, Option.map_eq_none_iff]

theorem Option.orElse_none_iff {α : Type} (x : Option α) (f : Unit → Option α) :
    x.orElse f = none ↔ x = none ∧ f () = none := by
  cases x with
  | none => exact (and_iff_right rfl).symm
  | some a => exact ⟨fun no => (by cases no), fun ⟨no, _⟩ => (by cases no)⟩

theorem State.firstWaiting_eq_none (s : State) :
    s.firstWaiting = none ↔
      (∀ p, s.centreWaits p = none) ∧ (∀ p, s.reportWaits p = none) ∧ (∀ h, (s.menu h).rests) ∧ s.engine.rests := by
  have pens : ∀ f : Pen → Option Access, allPens.findSome? f = none ↔ ∀ p, f p = none := fun f => by
    rw [List.findSome?_eq_none_iff]
    exact ⟨fun none_waits p => none_waits p (by cases p <;> decide), fun none_waits p _ => none_waits p⟩
  have heads : [Head.A, Head.B].findSome? s.menuWaits = none ↔ ∀ h, (s.menu h).rests := by
    rw [List.findSome?_eq_none_iff]
    simp only [State.menuWaits_eq_none]
    exact ⟨fun none_waits h => none_waits h (by cases h <;> decide), fun none_waits h _ => none_waits h⟩
  rw [State.firstWaiting, Option.orElse_none_iff, Option.orElse_none_iff, Option.orElse_none_iff, pens, pens, heads,
    State.engineWaits_eq_none]

/-- What leaves crosses, paths, units and the engine's work alone leaves a settled port settled. -/
theorem State.settled_of_same {s t : State}
    (crosses : ∀ p, (t.pen p).track = (s.pen p).track ∧ (t.pen p).opts = (s.pen p).opts) (reports : t.reports = s.reports)
    (menus : t.menus = s.menus) (engine : s.engine.rests → t.engine.rests) (port : t.port = s.port) (settled : s.settled) :
    t.settled := by
  intro idle
  obtain ⟨centres, paths, units, rests⟩ := s.firstWaiting_eq_none.1 (settled (port ▸ idle))
  refine t.firstWaiting_eq_none.2 ⟨fun p => ?_, fun p => ?_, fun h => ?_, engine rests⟩
  · rw [← centres p]
    unfold State.centreWaits
    dsimp only
    rw [(crosses p).1, (crosses p).2]
  · rw [← paths p]
    unfold State.reportWaits State.report
    rw [reports]
  · rw [State.menu, menus]
    exact units h

/-! ## The blocks at rest -/

/-- Every block as a stop or a reset leaves it (R12, R35, R69, R128, R132, R162, R168). -/
def State.blocksRest (s : State) : Prop :=
  (∀ h, (s.head h).state = .off ∧ (s.store h).switchPending = none ∧ (s.menu h).load = none ∧ (s.menu h).dirty = []) ∧
  (∀ p, (s.pen p).state = .disarmed ∧ (s.pen p).track.centre = .idle ∧ (s.report p).out = .none) ∧
  s.engine.work = .none ∧ s.engine.results = [] ∧ s.engine.resultStep = 0 ∧ s.engine.outstanding = []

/-- The port and the registers until the next start (R167 to R169). -/
structure State.PortRests (s : State) : Prop where
  stopping : s.regs.running = true → ∃ a, s.port = some a ∧ a.delivery ≠ .live
  stopped : s.regs.running = false → s.engine.scan = none ∧ (s.regs.resetting = false → s.port = none)
  resetting : s.regs.resetting = true → s.regs.run = false ∧ s.regs.running = false ∧ s.regs.startWaiting = false ∧
    ∀ a, s.port = some a → a.delivery = .dropped

/-- Neither started nor anything but at rest. -/
structure State.AtRest (s : State) : Prop where
  started : s.regs.started = false
  blocks : s.blocksRest
  port : s.PortRests

section
variable {s : State} (rest : s.AtRest)
include rest

theorem State.AtRest.firstWaiting (running : s.regs.running = false) : s.firstWaiting = none := by
  obtain ⟨heads, pens, work, results, -, -⟩ := rest.blocks
  obtain ⟨scan, -⟩ := rest.port.stopped running
  refine s.firstWaiting_eq_none.2 ⟨fun p => ?_, fun p => ?_, fun h => ?_, results, work, scan⟩
  · obtain ⟨-, centre, -⟩ := pens p
    unfold State.centreWaits
    simp only [centre]
  · obtain ⟨-, -, out⟩ := pens p
    unfold State.reportWaits
    cases pages : (s.report p).pages <;> simp only [pages, out]
  · obtain ⟨-, -, load, dirty⟩ := heads h
    unfold MenuUnit.rests
    simp only [dirty, load]

theorem State.AtRest.settled : s.settled := by
  intro idle
  refine rest.firstWaiting ?_
  by_contra running
  obtain ⟨a, granted, -⟩ := rest.port.stopping (eq_true_of_ne_false running)
  rw [idle] at granted
  cases granted

theorem State.AtRest.head_off (h : Head) : (s.head h).state = .off := (rest.blocks.1 h).1

theorem State.AtRest.pen_disarmed (p : Pen) : (s.pen p).state = .disarmed := (rest.blocks.2.1 p).1

/-- The registers may change where RUN, RUNNING, RESETTING and a waiting start stay. -/
theorem State.AtRest.of_mode {t : State} (mode : t.regs.mode = s.regs.mode) (blocks : t.blocksRest) (port : t.port = s.port)
    (scan : t.engine.scan = s.engine.scan ∨ s.regs.running = true) : t.AtRest := by
  obtain ⟨run, running, waiting, resetting⟩ := RunState.mk.inj mode
  refine ⟨?_, blocks, ?_, ?_, ?_⟩
  · rw [Regs.started, run, running, waiting]
    exact rest.started
  · rw [running, port]
    exact rest.port.stopping
  · rw [running, resetting, port]
    intro stopped
    rcases scan with same | going
    · rw [same]
      exact rest.port.stopped stopped
    · rw [going] at stopped
      cases stopped
  · rw [run, running, waiting, resetting, port]
    exact rest.port.resetting

theorem State.AtRest.setPen (p : Pen) {x : PenChannel} (state : x.state = .disarmed) (centre : x.track.centre = .idle) :
    (s.setPen p x).AtRest := by
  refine rest.of_mode rfl ⟨rest.blocks.1, fun q => ?_, rest.blocks.2.2⟩ rfl (.inl rfl)
  rw [State.pen_setPen]
  split
  case isTrue => exact ⟨state, centre, (rest.blocks.2.1 q).2.2⟩
  case isFalse => exact rest.blocks.2.1 q

theorem State.AtRest.pulse (p : Pen) : (s.pulse p).AtRest := by
  have disarmed := rest.pen_disarmed p
  have centre := (rest.blocks.2.1 p).2.1
  unfold State.pulse
  split
  case isTrue => exact rest
  case isFalse =>
    dsimp only
    split
    case isTrue => exact rest
    case isFalse =>
      have counted : ∀ t : State, t.AtRest → ∀ f, (t.count p f).AtRest := fun t rest f =>
        rest.setPen p (rest.pen_disarmed p) (rest.blocks.2.1 p).2.1
      have hit := counted _ (rest.setPen p (x := { s.pen p with
        deadMark := some ((s.head (s.pen p).opts.head).frame, (s.head (s.pen p).opts.head).step) }) disarmed centre)
        PenCounters.incHits
      unfold State.takeHit
      dsimp only
      rw [if_pos (.inl (hit.pen_disarmed p))]
      exact counted _ hit _

theorem State.AtRest.tipCloses (p : Pen) : (s.tipCloses p).AtRest :=
  rest.setPen p (rest.pen_disarmed p) (rest.blocks.2.1 p).2.1

theorem State.AtRest.tipOpens (p : Pen) : (s.tipOpens p).AtRest := by
  have opened := rest.setPen p (x := { s.pen p with tipClosed := false }) (rest.pen_disarmed p) (rest.blocks.2.1 p).2.1
  unfold State.tipOpens
  dsimp only
  rw [opened.pen_disarmed p]
  exact opened

/-- A head that is OFF neither times, strobes nor loses its link, and has nothing to disable. -/
theorem State.AtRest.heads_ignore (h : Head) :
    s.tickHead h = s ∧ (∀ w parity, s.strobe h w parity = s) ∧ s.loseLink h = s ∧ s.disableHead h = s ∧
    (s.head h).silent = s.head h ∧ (s.head h).stepped = s.head h := by
  have off := rest.head_off h
  refine ⟨?_, fun w parity => ?_, ?_, ?_, ?_, ?_⟩
  · unfold State.tickHead
    simp only [off, if_true]
  · unfold State.strobe
    simp only [off, if_true]
  · unfold State.loseLink
    simp only [off, reduceCtorEq, if_false]
  · unfold State.disableHead
    simp only [off, if_true]
  · unfold HeadRx.silent
    simp only [off, if_true]
  · unfold HeadRx.stepped
    simp only [off, reduceCtorEq, if_false]

theorem State.AtRest.grant : s.grant = s := State.grant_of_settled rest.settled

end

/-- A settled port while started, and everything at rest else. -/
theorem State.portOk_iff (s : State) : s.portOk ↔ s.live ∧ s.settled ∨ s.AtRest := by
  constructor
  · intro ⟨settled, resets, rests⟩
    cases started : s.regs.started with
    | true =>
      refine .inl ⟨⟨started, ?_⟩, settled⟩
      by_contra resetting
      obtain ⟨-, -, run, -⟩ := resets (eq_true_of_ne_false resetting)
      rw [Regs.started, run] at started
      cases started
    | false =>
      obtain ⟨heads, pens, work, results, step, outstanding, stopping, stopped⟩ := rests started
      refine .inr ⟨started, ⟨heads, pens, work, results, step, outstanding⟩, stopping, stopped, fun resetting => ?_⟩
      obtain ⟨-, -, run, running, waiting, -, dropped⟩ := resets resetting
      exact ⟨run, running, waiting, dropped⟩
  · rintro (⟨⟨started, resetting⟩, settled⟩ | rest)
    · exact ⟨settled, fun is => (by rw [resetting] at is; cases is), fun is => (by rw [started] at is; cases is)⟩
    · obtain ⟨heads, pens, work, results, step, outstanding⟩ := rest.blocks
      refine ⟨rest.settled, fun resetting => ?_, fun _ =>
        ⟨heads, pens, work, results, step, outstanding, rest.port.stopping, rest.port.stopped⟩⟩
      obtain ⟨run, running, waiting, dropped⟩ := rest.port.resetting resetting
      exact ⟨rest.head_off, rest.pen_disarmed, run, running, waiting, rest.firstWaiting running, dropped⟩

/-! ## Start, stop and reset -/

theorem State.blocksRest_stopped (s : State) : s.stopped.blocksRest := by
  refine ⟨fun h => ?_, fun p => ?_, rfl, rfl, rfl, rfl⟩
  · rw [s.head_stopped, s.store_stopped, s.menu_stopped]
    refine ⟨?_, rfl, rfl, rfl⟩
    unfold HeadRx.runStop
    split
    case isTrue off => exact off
    case isFalse => rfl
  · rw [s.pen_stopped, s.report_stopped]
    exact ⟨rfl, rfl, rfl⟩

theorem State.atRest_runStop {s : State} (resetting : s.regs.resetting = false)
    (idle : s.regs.running = false → s.port = none) : s.runStop.AtRest := by
  have blocks := s.blocksRest_stopped
  rw [State.runStop_eq]
  rcases s.stopped.finishStop_cases with ⟨-, port, eq⟩ | ⟨going, eq⟩
  · rw [eq]
    exact ⟨rfl, blocks, fun running => by (cases running), fun _ => ⟨rfl, fun _ => port⟩, fun is => by
      rw [show s.regs.resetting = true from is] at resetting
      cases resetting⟩
  · rw [eq]
    refine ⟨rfl, blocks, fun running => ?_, fun stopped => ⟨rfl, fun _ => ?_⟩, fun is => ?_⟩
    · have running : s.regs.running = true := running
      cases port : s.port with
      | none =>
        refine absurd ⟨?_, ?_⟩ going
        · show (s.regs.running && (!false || s.regs.startWaiting)) = true
          rw [running]
          rfl
        · show s.port.map Access.end = none
          rw [port]
          rfl
      | some a =>
        refine ⟨a.end, ?_, ?_⟩
        · show s.port.map Access.end = _
          rw [port]
          rfl
        · unfold Access.end
          cases a.delivery <;> exact Delivery.noConfusion
    · show s.port.map Access.end = none
      rw [idle stopped]
      rfl
    · rw [show s.regs.resetting = true from is] at resetting
      cases resetting

theorem State.atRest_resetBlocks (s : State) (anchor : BitVec 14) (port : Option Access)
    (dropped : ∀ a, port = some a → a.delivery = .dropped) : (s.resetBlocks anchor port).AtRest := by
  refine ⟨rfl, ⟨fun h => ?_, fun p => ?_, rfl, rfl, rfl, rfl⟩, fun running => by (cases running), fun _ => ⟨rfl, fun is => ?_⟩,
    fun _ => ⟨rfl, rfl, rfl, dropped⟩⟩
  · rw [State.head_resetBlocks, State.store_resetBlocks, State.menu_resetBlocks]
    exact ⟨rfl, rfl, rfl, rfl⟩
  · rw [State.pen_resetBlocks, State.report_resetBlocks]
    exact ⟨rfl, rfl, rfl⟩
  · cases is

/-! ## A write to CONTROL -/

/-- Started, or at rest, with no reset under way: what holds between the parts of a write to CONTROL. -/
def State.midWrite (s : State) : Prop := s.live ∨ s.AtRest ∧ s.regs.resetting = false

section
variable {s : State}

theorem State.midWrite.portOk_grant (mid : s.midWrite) : s.grant.portOk := by
  rw [State.portOk_iff]
  rcases mid with live | ⟨rest, -⟩
  · exact .inl ⟨State.live_of_mode s.grant_mode live, s.grant_settled⟩
  · exact .inr (rest.grant.symm ▸ rest)

theorem State.midWrite.of_mode {t : State} (mode : t.regs.mode = s.regs.mode) (blocks : s.AtRest → t.blocksRest)
    (port : t.port = s.port) (scan : t.engine.scan = s.engine.scan) (mid : s.midWrite) : t.midWrite := by
  rcases mid with live | ⟨rest, resetting⟩
  · exact .inl (State.live_of_mode mode live)
  · obtain ⟨-, -, -, same⟩ := RunState.mk.inj mode
    exact .inr ⟨rest.of_mode mode (blocks rest) port (.inl scan), same.trans resetting⟩

theorem State.live_takeStart (resetting : s.regs.resetting = false) : s.takeStart.live := by
  have enabled : ∀ (t : State) (h : Head) (b : Bool), (if b = true then t.enableHead h else t).regs = t.regs := fun t h b => by
    split <;> simp
  have mode : s.takeStart.regs.mode =
      ({ s.regs with run := true, running := true, startWaiting := false } : Regs).mode := by
    unfold State.takeStart
    dsimp only
    rw [State.setEngine_regs, enabled, enabled]
    rfl
  obtain ⟨run, running, waiting, same⟩ := RunState.mk.inj mode
  refine ⟨?_, same.trans resetting⟩
  rw [Regs.started, run, running, waiting]
  rfl

theorem State.rests_takeStart (s : State) (rests : s.engine.rests) : s.takeStart.engine.rests := by
  have enabled : ∀ (t : State) (h : Head) (b : Bool), (if b = true then t.enableHead h else t).engine = t.engine :=
    fun t h b => by split <;> simp
  unfold State.takeStart
  dsimp only
  simp only [Engine.rests, State.setEngine_engine, enabled]
  exact rests

theorem State.midWrite.lowerRun (run : s.regs.run = true) (mid : s.midWrite) : s.lowerRun.midWrite := by
  unfold State.lowerRun
  rcases mid with live | ⟨rest, resetting⟩
  · obtain ⟨started, resetting⟩ := live
    unfold Regs.started at started
    simp only [Bool.and_eq_true, Bool.not_eq_true'] at started
    obtain ⟨⟨-, running⟩, waiting⟩ := started
    rw [if_neg (by rw [waiting]; exact Bool.noConfusion)]
    have stopped := State.atRest_runStop resetting fun stopped => by rw [running] at stopped; cases stopped
    refine .inr ⟨stopped, ?_⟩
    rw [State.runStop_eq]
    rcases s.stopped.finishStop_cases with ⟨-, -, eq⟩ | ⟨-, eq⟩ <;> rw [eq] <;> exact resetting
  · split
    case isTrue =>
      exact .inr ⟨⟨rfl, rest.blocks, rest.port.stopping, rest.port.stopped, fun is =>
        (by rw [show s.regs.resetting = true from is] at resetting; cases resetting)⟩, resetting⟩
    case isFalse =>
      have stopped := State.atRest_runStop resetting fun stopped => (rest.port.stopped stopped).2 resetting
      refine .inr ⟨stopped, ?_⟩
      rw [State.runStop_eq]
      rcases s.stopped.finishStop_cases with ⟨-, -, eq⟩ | ⟨-, eq⟩ <;> rw [eq] <;> exact resetting

theorem State.midWrite.writeEnable (h : Head) (v : Bool) (mid : s.midWrite) : (s.writeEnable h v).midWrite := by
  have mode : (s.regs.setEnable h v).mode = s.regs.mode := by cases h <;> rfl
  have set : (s.setRegs (s.regs.setEnable h v)).midWrite := mid.of_mode mode (fun rest => rest.blocks) rfl rfl
  unfold State.writeEnable
  dsimp only
  split
  case isTrue => exact mid
  case isFalse =>
    rcases set with live | ⟨rest, resetting⟩
    · cases v with
      | true =>
        rw [if_pos rfl, if_pos live.1]
        exact .inl (State.live_of_mode (congrArg Regs.mode (by simp)) live)
      | false => exact .inl (State.live_of_mode (State.disableHead_mode _ h) live)
    · obtain ⟨-, -, -, undisabled, -, -⟩ := rest.heads_ignore h
      cases v with
      | true =>
        rw [if_pos rfl, if_neg (by rw [rest.started]; exact Bool.noConfusion)]
        exact .inr ⟨rest, resetting⟩
      | false =>
        rw [if_neg Bool.noConfusion, undisabled]
        exact .inr ⟨rest, resetting⟩

theorem State.midWrite.raiseRun (run : s.regs.run = false) (mid : s.midWrite) : s.raiseRun.midWrite := by
  rcases mid with ⟨started, -⟩ | ⟨rest, resetting⟩
  · rw [Regs.started, run] at started
    cases started
  · unfold State.raiseRun
    split
    case isTrue =>
      exact .inr ⟨⟨by simp [Regs.started], rest.blocks, rest.port.stopping, rest.port.stopped, fun is =>
        (by rw [show s.regs.resetting = true from is] at resetting; cases resetting)⟩, resetting⟩
    case isFalse => exact .inl (State.live_takeStart resetting)

theorem State.portOk_writeControl (w : Word) (ok : s.portOk) : (s.writeControl w).portOk := by
  unfold State.writeControl
  dsimp only
  split
  case isTrue => exact ok
  case isFalse going =>
    have resetting : s.regs.resetting = false := eq_false_of_ne_true going
    split
    case isTrue =>
      refine (State.portOk_iff _).2 (.inr (s.atRest_resetBlocks _ _ fun a dropped => ?_))
      obtain ⟨b, -, rfl⟩ := Option.map_eq_some_iff.1 dropped
      rfl
    case isFalse =>
      have mid : s.midWrite := ((State.portOk_iff s).1 ok).imp And.left fun rest => ⟨rest, resetting⟩
      have lowered : ∀ t : State, t.midWrite → (if t.regs.run ∧ ¬ w.getLsbD 0 then t.lowerRun else t).midWrite := fun t mid => by
        split
        case isTrue falls => exact mid.lowerRun falls.1
        case isFalse => exact mid
      have raised : ∀ t : State, t.midWrite → (if ¬ t.regs.run ∧ w.getLsbD 0 then t.raiseRun else t).midWrite := fun t mid => by
        split
        case isTrue rises => exact mid.raiseRun (eq_false_of_ne_true rises.1)
        case isFalse => exact mid
      have noted : (s.setRegs { s.regs with enables := notesOf w }).midWrite := State.midWrite.of_mode (s := s) rfl (fun rest => rest.blocks) rfl rfl mid
      exact (raised _ (((lowered _ noted).writeEnable .A (w.getLsbD 1)).writeEnable .B (w.getLsbD 2))).portOk_grant

end

/-! ## The end of an access -/

theorem State.endAccess_of_live {s : State} {a : Access} (live : a.delivery = .live) (failed : Bool) (done : State → State) :
    s.endAccess a failed done = done (if failed then (s.setPort none).note .fault else s.setPort none) := by
  unfold State.endAccess
  simp only [live]

/-- An access whose requester has ended its work changes no block that rests. -/
theorem State.endAccess_of_ended {s : State} {a : Access} (ended : a.delivery ≠ .live) (failed : Bool) (done : State → State) :
    (s.blocksRest → (s.endAccess a failed done).blocksRest) ∧ (s.endAccess a failed done).regs.mode = s.regs.mode ∧
    (s.endAccess a failed done).port = none ∧ (s.endAccess a failed done).engine = s.engine := by
  unfold State.endAccess
  cases delivery : a.delivery with
  | live => exact absurd delivery ended
  | dropped => exact ⟨id, rfl, rfl, rfl⟩
  | ended =>
    cases failed with
    | true => exact ⟨id, rfl, rfl, rfl⟩
    | false =>
      simp only [Bool.false_eq_true, if_false]
      unfold State.endedEffect
      split
      case h_1 p _ =>
        refine ⟨fun rest => ⟨rest.1, fun q => ?_, rest.2.2⟩, rfl, rfl, rfl⟩
        obtain ⟨state, centre, out⟩ := rest.2.1 q
        refine ⟨state, centre, ?_⟩
        show (((s.setPort none).setReport p _).report q).out = _
        rw [State.report_setReport]
        split
        case isTrue here => exact here ▸ out
        case isFalse => exact out
      case h_2 => exact ⟨id, rfl, rfl, rfl⟩
      case h_3 => exact ⟨id, rfl, rfl, rfl⟩

theorem State.AtRest.accessEnd {s : State} (rest : s.AtRest) (mine : Purpose → Bool) (failed : Bool)
    (done : Purpose → State → State) : (s.accessEnd mine failed done).AtRest := by
  unfold State.accessEnd
  split
  case h_1 => exact rest
  case h_2 a granted =>
    split
    case isFalse => exact rest
    case isTrue =>
      have ended : a.delivery ≠ .live := by
        cases running : s.regs.running with
        | true =>
          obtain ⟨b, port, ended⟩ := rest.port.stopping running
          rw [granted] at port
          exact Option.some.inj port ▸ ended
        | false =>
          cases resetting : s.regs.resetting with
          | true =>
            obtain ⟨-, -, -, dropped⟩ := rest.port.resetting resetting
            rw [dropped a granted]
            exact Delivery.noConfusion
          | false =>
            obtain ⟨-, idle⟩ := rest.port.stopped running
            rw [idle resetting] at granted
            cases granted
      obtain ⟨blocks, mode, port, engine⟩ := State.endAccess_of_ended (s := s) ended failed (done a.purpose)
      obtain ⟨run, running, waiting, resetting⟩ := RunState.mk.inj mode
      have started : (s.endAccess a failed (done a.purpose)).regs.started = false := by
        rw [Regs.started, run, running, waiting]
        exact rest.started
      generalize s.endAccess a failed (done a.purpose) = t at *
      have finished : t.finishStop.AtRest := by
        rcases t.finishStop_cases with ⟨-, -, eq⟩ | ⟨going, eq⟩
        · rw [eq]
          refine ⟨by simp [Regs.started], blocks rest.blocks, fun is => (by cases is), fun _ => ⟨rfl, fun _ => port⟩, fun is => ?_⟩
          obtain ⟨run', -, waiting', -⟩ := rest.port.resetting (resetting ▸ is)
          exact ⟨run.trans run', rfl, waiting.trans waiting', fun a held => (by rw [show t.port = some a from held] at port; cases port)⟩
        · rw [eq]
          have stopped : t.regs.running = false := by
            by_contra is
            have is := eq_true_of_ne_false is
            refine going ⟨?_, port⟩
            rw [Regs.stopping, is, Bool.true_and]
            rw [Regs.started, is] at started
            cases r : t.regs.run with
            | false => rfl
            | true =>
              rw [r] at started
              cases w : t.regs.startWaiting with
              | true => rfl
              | false =>
                rw [w] at started
                cases started
          refine ⟨started, blocks rest.blocks, fun is => (by rw [stopped] at is; cases is), fun _ => ⟨?_, fun _ => port⟩, fun is => ?_⟩
          · rw [engine]
            exact (rest.port.stopped (running ▸ stopped)).1
          · obtain ⟨run', running', waiting', -⟩ := rest.port.resetting (resetting ▸ is)
            exact ⟨run.trans run', running.trans running', waiting.trans waiting',
              fun a held => (by rw [held] at port; cases port)⟩
      exact finished.grant.symm ▸ finished

theorem State.portOk_accessEnd {s : State} (mine : Purpose → Bool) (failed : Bool) (done : Purpose → State → State)
    (ok : s.portOk) (completes : ∀ u, mine u = true → Completion u (done u)) : (s.accessEnd mine failed done).portOk := by
  rcases (State.portOk_iff s).1 ok with ⟨live, settled⟩ | rest
  · unfold State.accessEnd
    split
    case h_1 => exact ok
    case h_2 a granted =>
      split
      case isFalse => exact ok
      case isTrue is_mine =>
        have mode : (s.endAccess a failed (done a.purpose)).regs.mode = s.regs.mode := by
          by_cases delivery : a.delivery = .live
          · rw [State.endAccess_of_live delivery]
            cases failed with
            | true => exact (completes _ is_mine).mode ((s.setPort none).note .fault) rfl
            | false => exact (completes _ is_mine).mode (s.setPort none) rfl
          · obtain ⟨-, mode, -⟩ := State.endAccess_of_ended (s := s) delivery failed (done a.purpose)
            exact mode
        have ended := State.live_of_mode mode live
        rw [State.finishStop_of_not_stopping (State.not_stopping_of_live ended)]
        exact State.midWrite.portOk_grant (.inl ended)
  · exact (State.portOk_iff _).2 (.inr (rest.accessEnd mine failed done))

/-! ## The promise -/

section
variable {s : State}

/-- What keeps a started machine started, and one at rest as it is, keeps the promise once the port grants. -/
theorem State.portOk_grant_of_mode {t : State} (mode : t.regs.mode = s.regs.mode) (rests : s.AtRest → t.AtRest) (ok : s.portOk) :
    t.grant.portOk := by
  rcases (State.portOk_iff s).1 ok with ⟨live, -⟩ | rest
  · exact State.midWrite.portOk_grant (.inl (State.live_of_mode mode live))
  · have rest := rests rest
    exact rest.grant.symm ▸ (State.portOk_iff t).2 (.inr rest)

/-- A receiver's own change, or that of a part that no requester waits by. -/
theorem State.portOk_of_same {t : State}
    (crosses : ∀ p, (t.pen p).track = (s.pen p).track ∧ (t.pen p).opts = (s.pen p).opts) (reports : t.reports = s.reports)
    (menus : t.menus = s.menus) (engine : s.engine.rests → t.engine.rests) (port : t.port = s.port)
    (mode : t.regs.mode = s.regs.mode) (rests : s.AtRest → t.AtRest) (ok : s.portOk) : t.portOk := by
  rcases (State.portOk_iff s).1 ok with ⟨live, settled⟩ | rest
  · exact (State.portOk_iff t).2 (.inl ⟨State.live_of_mode mode live,
      State.settled_of_same crosses reports menus engine port settled⟩)
  · exact (State.portOk_iff t).2 (.inr (rests rest))

theorem State.AtRest.setRegs (r : Regs) (mode : r.mode = s.regs.mode) (rest : s.AtRest) : (s.setRegs r).AtRest :=
  rest.of_mode mode rest.blocks rfl (.inl rfl)

theorem State.AtRest.setHead_same {h : Head} {x : HeadRx} (same : x = s.head h) (rest : s.AtRest) : (s.setHead h x).AtRest := by
  rw [same, State.setHead_head]
  exact rest

theorem State.AtRest.tick (rest : s.AtRest) : ((s.tickHead .A).tickHead .B).AtRest := by
  obtain ⟨first, -⟩ := rest.heads_ignore .A
  obtain ⟨second, -⟩ := rest.heads_ignore .B
  rw [first, second]
  exact rest

end

theorem portOk_keptBySteps : KeptBySteps State.portOk where
  queue s cs ok := ok
  tick s ok := State.portOk_grant_of_mode ((State.tickHead_mode _ _).trans (State.tickHead_mode _ _)) State.AtRest.tick ok
  strobe s h w parity ok := State.portOk_grant_of_mode (s.strobe_mode h w parity) (fun rest => by
    obtain ⟨-, strobe, -⟩ := rest.heads_ignore h
    exact (strobe w parity).symm ▸ rest) ok
  silent s h ok := State.portOk_of_same (s := s) (fun _ => ⟨rfl, rfl⟩) rfl rfl id rfl rfl (fun rest => by
    obtain ⟨-, -, -, -, silent, -⟩ := rest.heads_ignore h
    exact rest.setHead_same silent) ok
  stepped s h ok := State.portOk_of_same (s := s) (fun _ => ⟨rfl, rfl⟩) rfl rfl id rfl rfl (fun rest => by
    obtain ⟨-, -, -, -, -, stepped⟩ := rest.heads_ignore h
    exact rest.setHead_same stepped) ok
  loseLink s h ok := State.portOk_grant_of_mode (s.loseLink_mode h) (fun rest => by
    obtain ⟨-, -, keeps, -⟩ := rest.heads_ignore h
    exact keeps.symm ▸ rest) ok
  pulse s p ok := State.portOk_grant_of_mode ((modeKept_byPens s.regs.mode).pulse p rfl) (fun rest => rest.pulse p) ok
  tipCloses s p ok := State.portOk_of_same (s := s) (fun q => by
    unfold State.tipCloses
    rw [State.pen_setPen]
    split
    case isTrue here => exact here ▸ ⟨rfl, rfl⟩
    case isFalse => exact ⟨rfl, rfl⟩) rfl rfl id rfl rfl (fun rest => rest.tipCloses p) ok
  tipOpens s p ok := State.portOk_grant_of_mode ((modeKept_byPens s.regs.mode).tipOpens p rfl) (fun rest => rest.tipOpens p) ok
  writeControl s w ok := State.portOk_writeControl w ok
  takeDeferredStart s ok := by
    unfold State.takeDeferredStart
    split
    case isFalse => exact ok
    case isTrue waits =>
      obtain ⟨waiting, stopped⟩ := waits
      have stopped := eq_false_of_ne_true stopped
      rcases (State.portOk_iff s).1 ok with ⟨⟨started, -⟩, -⟩ | rest
      · rw [Regs.started, stopped, Bool.and_false] at started
        cases started
      · have resetting : s.regs.resetting = false := by
          by_contra is
          obtain ⟨-, -, unwaited, -⟩ := rest.port.resetting (eq_true_of_ne_false is)
          rw [waiting] at unwaited
          cases unwaited
        have idle := (rest.port.stopped stopped).2 resetting
        obtain ⟨-, menus, pens, reports, port, -⟩ := s.takeStart_frame
        refine (State.portOk_iff _).2 (.inl ⟨State.live_takeStart resetting,
          State.settled_of_same (s := s) (fun p => ?_) reports menus s.rests_takeStart port rest.settled⟩)
        rw [State.pen, pens]
        exact ⟨rfl, rfl⟩
  takeHardwareReset s ok := (State.portOk_iff _).2 (.inr (s.atRest_resetBlocks 0 none fun _ no => by cases no))
  finishReset s ok := by
    unfold State.finishReset
    split
    case isFalse => exact ok
    case isTrue resetting =>
      rcases (State.portOk_iff s).1 ok with ⟨⟨-, going⟩, -⟩ | rest
      · rw [resetting] at going
        cases going
      · obtain ⟨run, running, waiting, -⟩ := rest.port.resetting resetting
        obtain ⟨scan, -⟩ := rest.port.stopped running
        refine (State.portOk_iff _).2 (.inr ⟨rest.started, rest.blocks, fun is => ?_, fun _ => ⟨scan, fun _ => rfl⟩, fun is => ?_⟩)
        · rw [show s.regs.running = true from is] at running
          cases running
        · cases is
  writeStatus s w ok := by
    unfold State.writeStatus
    split
    case isTrue => exact ok
    case isFalse => exact State.portOk_of_same (s := s) (fun _ => ⟨rfl, rfl⟩) rfl rfl id rfl rfl (fun rest => rest.setRegs _ rfl) ok
  writeAnchor s w ok := by
    unfold State.writeAnchor
    split
    case isTrue => exact ok
    case isFalse => exact State.portOk_of_same (s := s) (fun _ => ⟨rfl, rfl⟩) rfl rfl id rfl rfl (fun rest => rest.setRegs _ rfl) ok
  writeAttention s ok := by
    unfold State.writeAttention
    split
    case isTrue => exact ok
    case isFalse =>
      split
      case isFalse => exact ok
      case isTrue =>
        exact State.portOk_of_same (s := s) (fun _ => ⟨rfl, rfl⟩) rfl rfl id rfl rfl
          (fun rest => rest.of_mode rfl rest.blocks rfl (.inl rfl)) ok
  beginScan s ok := by
    unfold State.beginScan
    dsimp only
    split
    case isFalse => exact State.portOk_grant_of_mode rfl id ok
    case isTrue scans =>
      exact State.portOk_grant_of_mode (s := s) rfl (fun rest => rest.of_mode rfl rest.blocks rfl (.inr scans.2.1)) ok
  accessEnd s mine failed live ok completes := State.portOk_accessEnd mine failed live ok completes

/-- Settles O60: started, every operation that can leave a requester waiting ends in a grant; at rest no operation moves a block
but a start, which finds a settled port. -/
theorem portKept : Obligations.PortKept :=
  fun _ _ ok stepped => step_keeps portOk_keptBySteps ok stepped

end Sys2Proof.Machine
end

section
/-! PROOF. The machine's steps, its resets, and the register window (R165 to R169, R182). -/

namespace Sys2Proof.Machine

open Sys2Proof

/-! ## Steps -/

/-- Settles O1: a step on a queue that is not empty is the execution of its front. -/
theorem stepRunsFrontCommand : Obligations.StepRunsFrontCommand := fun _ _ _ => rfl

/-- The end of an access leaves the waiting commands alone. -/
theorem Completion.pending {u : Purpose} {live : State → State} (completes : Completion u live) (t : State) :
    (live t).pending = t.pending := by
  cases completes with
  | takenDone kind k =>
    beta_reduce
    unfold State.takenDone
    split
    case h_2 => rfl
    case h_1 =>
      cases k with
      | none => simp [State.serve]
      | some k => cases k <;> simp [State.serve]
  | takenFailed =>
    beta_reduce
    unfold State.takenFailed
    split <;> simp
  | _ => simp

theorem State.accessEnd_pending (s : State) (mine : Purpose → Bool) (failed : Bool) (live : Purpose → State → State)
    (completes : ∀ u, mine u = true → Completion u (live u)) : (s.accessEnd mine failed live).pending = s.pending := by
  unfold State.accessEnd
  split
  case h_1 => rfl
  case h_2 a _ =>
    split
    case isFalse => rfl
    case isTrue is_mine =>
      have finished : ∀ t : State, t.finishStop.grant.pending = t.pending := fun t => by simp
      rw [finished, State.endAccess]
      cases a.delivery with
      | live => cases failed <;> exact (completes _ is_mine).pending _
      | ended => cases failed <;> simp
      | dropped => rfl

theorem pending_keptByCommands (cs : List Instr) : KeptByCommands (fun s => s.pending = cs) where
  tick s ok := by simpa using ok
  strobe s h w parity ok := by simpa using ok
  silent s h ok := ok
  stepped s h ok := ok
  loseLink s h ok := by simpa using ok
  pulse s p ok := by simpa using ok
  tipCloses s p ok := by simpa using ok
  tipOpens s p ok := by simpa using ok
  writeControl s w ok := by simpa using ok
  takeDeferredStart s ok := by simpa using ok
  takeHardwareReset s ok := by simpa using ok
  finishReset s ok := by simpa using ok
  writeStatus s w ok := by simpa using ok
  writeAnchor s w ok := by simpa using ok
  writeAttention s ok := by simpa using ok
  beginScan s ok := by simpa using ok
  accessEnd s mine failed live ok completes := (s.accessEnd_pending mine failed live completes).trans ok

/-- Settles O3: each command comes to one of a few operations, none of which faults or touches the queue. -/
theorem commandsAnswerAndLeaveTheQueue : Obligations.CommandsAnswerAndLeaveTheQueue :=
  fun c s => exec_keeps (pending_keptByCommands s.pending) rfl c

/-! ## Resets -/

/-- Settles O4: a hardware reset and a soft reset differ in ANCHOR and in the access that runs on. -/
theorem resetTakenAndCompleted : Obligations.ResetTakenAndCompleted := by
  refine ⟨fun s => rfl, fun w s going soft => ⟨_, _, rfl, rfl, ?_, ?_, ?_⟩⟩
  · unfold State.writeControl
    simp only [going, soft, Bool.false_eq_true, if_false, if_true]
    rfl
  · unfold State.writeControl
    simp only [going, soft, Bool.false_eq_true, if_false, if_true]
    rfl
  · show Host.Outcome.next s.finishReset = _
    unfold State.finishReset
    rw [going, if_neg Bool.noConfusion]

/-- Settles O5, field by field. -/
theorem resetValues : Obligations.ResetValues := by
  refine ⟨fun h => ?_, fun h => ?_, fun h => ?_, fun p => ?_, fun p => ?_, rfl, rfl, rfl, rfl, rfl, rfl, rfl, by decide⟩
  · cases h <;> decide
  · cases h <;> decide
  · cases h <;> decide
  · cases p <;> decide
  · cases p <;> decide

/-! ## The promises right after reset -/

theorem State.head_reset (h : Head) : State.reset.head h = .reset := by cases h <;> rfl

theorem State.store_reset (h : Head) : State.reset.store h = .reset := by cases h <;> rfl

theorem State.menu_reset (h : Head) : State.reset.menu h = .reset := by cases h <;> rfl

theorem State.pen_reset (p : Pen) : State.reset.pen p = .reset false := by cases p <;> rfl

theorem State.report_reset (p : Pen) : State.reset.report p = .reset 0 := by cases p <;> rfl

theorem State.historiesOk_reset : State.reset.historiesOk := fun h => by
  rw [State.head_reset]
  exact HeadRx.historyOk_of_empty rfl rfl rfl

theorem State.windowsOk_reset : State.reset.windowsOk := by
  refine ⟨fun h n => ?_, fun slot h n addr k loading => ?_, fun h => ?_⟩
  · rw [State.store_reset]
    cases n <;> rfl
  · cases loading
  · rw [State.head_reset, State.windowLength_eq, State.store_reset]
    decide

theorem State.pensOk_reset : State.reset.pensOk :=
  ⟨State.fencingOk_of_not_fences id, fun p => by
    rw [State.pen_reset]
    exact PenChannel.ok_reset false⟩

theorem State.menusOk_reset : State.reset.menusOk := fun h => by
  rw [State.menu_reset]
  exact MenuUnit.ok_reset

theorem State.reportsOk_reset : State.reset.reportsOk := fun p => by
  refine ⟨?_, fun ⟨a, k, granted, _⟩ => by cases granted⟩
  rw [State.report_reset]
  exact ReportPath.ok_reset 0

theorem State.slotsOk_reset : State.reset.slotsOk := by
  refine (State.slotsOk_iff _).2 (.of_rest rfl rfl rfl (fun h => ?_) (fun h => ?_) (fun h => ?_) fun p => ?_)
  · rw [State.head_reset]
    exact ⟨rfl, fun _ => ⟨rfl, rfl⟩⟩
  · rw [State.store_reset]
    rfl
  · rw [State.menu_reset]
    rfl
  · rw [State.pen_reset]
    rfl

theorem State.portOk_reset : State.reset.portOk := by
  refine (State.portOk_iff _).2 (.inr ⟨rfl, ⟨fun h => ?_, fun p => ?_, rfl, rfl, rfl, rfl⟩, fun running => ?_,
    fun _ => ⟨rfl, fun _ => rfl⟩, fun resetting => ?_⟩)
  · rw [State.head_reset, State.store_reset, State.menu_reset]
    exact ⟨rfl, rfl, rfl, rfl⟩
  · rw [State.pen_reset, State.report_reset]
    exact ⟨rfl, rfl, rfl⟩
  · cases running
  · cases resetting

/-- Settles O53, promise by promise. -/
theorem promisesHoldAtReset : Obligations.PromisesHoldAtReset :=
  ⟨State.historiesOk_reset, State.windowsOk_reset, State.pensOk_reset, State.menusOk_reset, State.reportsOk_reset,
    State.slotsOk_reset, State.portOk_reset⟩

/-! ## The register window -/

theorem getLsbD_wordOf (n i : Nat) : (wordOf n).getLsbD i = (decide (i < 16) && n.testBit i) := by
  rw [wordOf, BitVec.getLsbD_ofNat]

theorem testBit_bit_add (b : Bool) (n i : Nat) :
    (bit b + 2 * n).testBit i = if i = 0 then b else n.testBit (i - 1) := by
  cases i with
  | zero => cases b <;> simp [bit, Nat.testBit_zero]
  | succ i =>
    rw [Nat.testBit_succ, if_neg (Nat.succ_ne_zero i), Nat.add_sub_cancel]
    congr 1
    cases b <;> simp only [bit, Bool.false_eq_true, if_false, if_true] <;> omega

/-- The bits of a register whose low half holds four flags and whose note bits are those of `n` (R182). -/
theorem getLsbD_flags (b0 b1 b2 b3 : Bool) (n : Notes) (i : Nat) :
    (wordOf (bit b0 + 2 * bit b1 + 4 * bit b2 + 8 * bit b3 + notesValue n)).getLsbD i =
      match i with
      | 0 => b0
      | 1 => b1
      | 2 => b2
      | 3 => b3
      | 8 => n.page
      | 9 => n.request
      | 10 => n.fault
      | 11 => n.lost
      | _ => false := by
  obtain ⟨n8, n9, n10, n11⟩ := n
  have nested : bit b0 + 2 * bit b1 + 4 * bit b2 + 8 * bit b3 + notesValue ⟨n8, n9, n10, n11⟩ =
      bit b0 + 2 * (bit b1 + 2 * (bit b2 + 2 * (bit b3 + 2 * (bit false + 2 * (bit false + 2 * (bit false + 2 * (bit false +
        2 * (bit n8 + 2 * (bit n9 + 2 * (bit n10 + 2 * (bit n11 + 2 * 0))))))))))) := by
    simp only [notesValue, show bit false = 0 from rfl]
    omega
  rw [getLsbD_wordOf, nested]
  simp only [testBit_bit_add, Nat.zero_testBit]
  rcases i with _ | _ | _ | _ | _ | _ | _ | _ | _ | _ | _ | _ | i <;> simp

theorem getLsbD_controlValue (s : State) (i : Nat) :
    (controlValue s).getLsbD i =
      match i with
      | 0 => s.regs.run
      | 1 => s.regs.enableA
      | 2 => s.regs.enableB
      | 8 => s.regs.enables.page
      | 9 => s.regs.enables.request
      | 10 => s.regs.enables.fault
      | 11 => s.regs.enables.lost
      | _ => false := by
  have flags := getLsbD_flags s.regs.run s.regs.enableA s.regs.enableB false s.regs.enables i
  rw [show bit false = 0 from rfl, Nat.mul_zero, Nat.add_zero] at flags
  rw [controlValue, flags]
  rcases i with _ | _ | _ | _ | _ | _ | _ | _ | _ | _ | _ | _ | i <;> rfl

theorem interrupt_iff (s : State) :
    interrupt s = true ↔
      ∃ i, 8 ≤ i ∧ i ≤ 11 ∧ (controlValue s).getLsbD i = true ∧ (statusValue s).getLsbD i = true := by
  have status := getLsbD_flags s.regs.resetting s.regs.running (decide (s.heads.a.state = .synced))
    (decide (s.heads.b.state = .synced)) s.regs.notes
  constructor
  · intro active
    simp only [interrupt, Bool.or_eq_true, Bool.and_eq_true] at active
    rcases active with ((⟨note, enable⟩ | ⟨note, enable⟩) | ⟨note, enable⟩) | ⟨note, enable⟩
    · exact ⟨8, by omega, by omega, (getLsbD_controlValue s 8).trans enable, (status 8).trans note⟩
    · exact ⟨9, by omega, by omega, (getLsbD_controlValue s 9).trans enable, (status 9).trans note⟩
    · exact ⟨10, by omega, by omega, (getLsbD_controlValue s 10).trans enable, (status 10).trans note⟩
    · exact ⟨11, by omega, by omega, (getLsbD_controlValue s 11).trans enable, (status 11).trans note⟩
  · rintro ⟨i, low, high, enable, note⟩
    simp only [interrupt, Bool.or_eq_true, Bool.and_eq_true]
    obtain rfl | rfl | rfl | rfl : i = 8 ∨ i = 9 ∨ i = 10 ∨ i = 11 := by omega
    · exact .inl (.inl (.inl ⟨(status 8).symm.trans note, (getLsbD_controlValue s 8).symm.trans enable⟩))
    · exact .inl (.inl (.inr ⟨(status 9).symm.trans note, (getLsbD_controlValue s 9).symm.trans enable⟩))
    · exact .inl (.inr ⟨(status 10).symm.trans note, (getLsbD_controlValue s 10).symm.trans enable⟩)
    · exact .inr ⟨(status 11).symm.trans note, (getLsbD_controlValue s 11).symm.trans enable⟩

/-- Settles O9: each register is a sum of flags at their bits. -/
theorem registersRead : Obligations.RegistersRead := by
  refine fun s => ⟨interrupt_iff s, fun i => ?_, fun i => ?_, ?_, rfl⟩
  · refine (getLsbD_controlValue s i).trans ?_
    rcases i with _ | _ | _ | _ | _ | _ | _ | _ | _ | _ | _ | _ | i <;> rfl
  · refine (getLsbD_flags _ _ _ _ _ i).trans ?_
    rcases i with _ | _ | _ | _ | _ | _ | _ | _ | _ | _ | _ | _ | i <;> rfl
  · show (s.regs.anchor.setWidth 16).toNat = _
    rw [BitVec.toNat_setWidth]
    have small := s.regs.anchor.isLt
    omega

/-! ### Writes to CONTROL -/

/-- The note enables as a write of `w` to CONTROL sets them. -/
def State.noted (s : State) (w : Word) : State := s.setRegs { s.regs with enables := notesOf w }

section
variable {s : State} {w : Word}

theorem State.noted_run : (s.noted w).regs.run = s.regs.run := rfl

theorem State.noted_enable (h : Head) : (s.noted w).regs.enable h = s.regs.enable h := by cases h <;> rfl

theorem State.writeEnable_same {h : Head} {v : Bool} (same : v = s.regs.enable h) : s.writeEnable h v = s := by
  unfold State.writeEnable
  rw [if_pos same]

theorem State.writeEnable_noted {h : Head} {v : Bool} (same : v = s.regs.enable h) :
    (s.noted w).writeEnable h v = s.noted w :=
  State.writeEnable_same (same.trans (s.noted_enable h).symm)

theorem State.writeEnable_mode (s : State) (h : Head) (v : Bool) : (s.writeEnable h v).regs.mode = s.regs.mode := by
  have mode : (s.regs.setEnable h v).mode = s.regs.mode := by cases h <;> rfl
  unfold State.writeEnable
  dsimp only
  split
  case isTrue => rfl
  case isFalse =>
    cases v with
    | true =>
      rw [if_pos rfl]
      split
      case isTrue => exact (congrArg Regs.mode (by simp)).trans mode
      case isFalse => exact mode
    | false => exact (State.disableHead_mode _ h).trans mode

/-- A write to CONTROL that leaves RUN as it is: the note enables, then head A's enable and head B's. -/
theorem State.writeControl_of_same_run (going : s.regs.resetting = false) (hard : w.getLsbD 3 = false)
    (run : w.getLsbD 0 = s.regs.run) :
    s.writeControl w =
      (((s.noted w).writeEnable .A (w.getLsbD 1)).writeEnable .B (w.getLsbD 2)).grant := by
  have modes := (State.writeEnable_mode ((s.noted w).writeEnable .A (w.getLsbD 1)) .B
    (w.getLsbD 2)).trans (State.writeEnable_mode (s.noted w) .A (w.getLsbD 1))
  obtain ⟨same, -⟩ := RunState.mk.inj modes
  have lowers : ¬ (s.regs.run = true ∧ ¬ w.getLsbD 0 = true) := by
    rw [run]
    exact fun falls => falls.2 falls.1
  have raises : ¬ (¬ s.regs.run = true ∧ w.getLsbD 0 = true) := by
    rw [run]
    exact fun rises => rises.1 rises.2
  unfold State.writeControl
  rw [if_neg (by rw [going]; exact Bool.noConfusion), if_neg (by rw [hard]; exact Bool.noConfusion)]
  dsimp only
  rw [← State.noted, State.noted_run, if_neg lowers, same, State.noted_run, if_neg raises]

/-- A write to CONTROL of the note enables alone. -/
theorem State.writeControl_of_same (going : s.regs.resetting = false) (hard : w.getLsbD 3 = false)
    (run : w.getLsbD 0 = s.regs.run) (enableA : w.getLsbD 1 = s.regs.enableA) (enableB : w.getLsbD 2 = s.regs.enableB) :
    s.writeControl w = (s.noted w).grant := by
  rw [State.writeControl_of_same_run going hard run, State.writeEnable_noted (h := .A) enableA,
    State.writeEnable_noted (h := .B) enableB]

/-- While RESETTING reads 1 the window takes no write (R165). -/
theorem State.writes_ignored (resetting : s.regs.resetting = true) (w : Word) :
    s.writeControl w = s ∧ s.writeStatus w = s ∧ s.writeAnchor w = s ∧ s.writeAttention = s := by
  refine ⟨?_, ?_, ?_, ?_⟩
  · unfold State.writeControl
    rw [if_pos resetting]
  · unfold State.writeStatus
    rw [if_pos resetting]
  · unfold State.writeAnchor
    rw [if_pos (.inl resetting)]
  · unfold State.writeAttention
    rw [if_pos resetting]

end

/-- Settles O10. -/
theorem otherRegistersWritten : Obligations.OtherRegistersWritten := by
  refine ⟨fun w s going => ⟨fun run enableA enableB hard => ?_, ?_, ?_, ?_⟩, fun w h s resetting => ?_⟩
  · exact congrArg Host.Outcome.next (State.writeControl_of_same going hard run enableA enableB)
  · show Host.Outcome.next (s.writeStatus w) = _
    unfold State.writeStatus
    rw [going, if_neg Bool.noConfusion]
    rfl
  · show Host.Outcome.next (s.writeAnchor w) = _
    have modulo : w.setWidth 14 = BitVec.ofNat 14 (w.toNat % 16384) :=
      BitVec.eq_of_toNat_eq (by rw [BitVec.toNat_setWidth, BitVec.toNat_ofNat, Nat.mod_mod])
    unfold State.writeAnchor
    rw [going, modulo]
    simp only [Bool.false_eq_true, false_or]
    rfl
  · show Host.Outcome.next s.writeAttention = _
    unfold State.writeAttention
    rw [going, if_neg Bool.noConfusion]
    rfl
  · obtain ⟨control, status, anchor, attention⟩ := State.writes_ignored resetting w
    have next := fun t (same : t = s) => congrArg (Host.Outcome.next (φ := Fault) (ρ := Refusal)) same
    exact ⟨next _ control, next _ control, next _ control, next _ control, next _ control, next _ control, next _ status,
      next _ anchor, next _ attention⟩

/-! ## Saturating counters, step pulses and silence -/

theorem satInc_toNat (c : Counter) : (satInc c).toNat = if c.toNat = 65535 then 65535 else c.toNat + 1 := by
  unfold satInc
  have small := c.isLt
  by_cases full : c = 65535#16
  · subst full
    rfl
  · have below : c.toNat ≠ 65535 := fun same => full (BitVec.eq_of_toNat_eq same)
    rw [if_neg full, if_neg below, BitVec.toNat_add]
    show (c.toNat + 1) % 65536 = _
    omega

theorem satAdd_toNat (c : Counter) (n : Nat) : (satAdd c n).toNat = min 65535 (c.toNat + n) := by
  rw [satAdd, BitVec.toNat_ofNat]
  omega

theorem State.setHead_ite_same (s : State) (h : Head) (b : Prop) [Decidable b] (x : HeadRx) :
    s.setHead h (if b then s.head h else x) = if b then s else s.setHead h x := by
  split
  case isTrue => exact s.setHead_head h
  case isFalse => rfl

/-- Settles O11. -/
theorem stepPulseAndSilence : Obligations.StepPulseAndSilence := by
  refine ⟨fun h s => congrArg Host.Outcome.next ?_, fun h s => congrArg Host.Outcome.next ?_,
    fun c n => ⟨satInc_toNat c, satAdd_toNat c n⟩⟩
  · unfold HeadRx.stepped
    by_cases synced : (s.head h).state = .synced
    · by_cases room : (s.head h).step < Config.stepMax
      · rw [if_pos synced, if_pos room, if_pos ⟨synced, room⟩]
        rfl
      · rw [if_pos synced, if_neg room, if_neg fun both => room both.2]
        exact s.setHead_head h
    · rw [if_neg synced, if_neg fun both => synced both.1]
      exact s.setHead_head h
  · exact s.setHead_ite_same h _ _

/-! ## Start and RUN stop -/

section
variable {s : State} {w : Word}

/-- An enable that neither takes a head from OFF nor disables one only is written (R5, R12). -/
theorem State.writeEnable_of_rest {h : Head} (v : Bool) (off : (s.head h).state = .off)
    (rests : v = true → s.regs.started = false) : s.writeEnable h v = s.setRegs (s.regs.setEnable h v) := by
  unfold State.writeEnable
  split
  case isTrue same =>
    rw [same]
    cases h <;> rfl
  case isFalse =>
    have started : (s.regs.setEnable h v).started = s.regs.started := by cases h <;> rfl
    cases v with
    | true =>
      dsimp only
      rw [if_pos rfl, State.setRegs_regs, started, rests rfl, if_neg Bool.noConfusion]
    | false =>
      dsimp only
      rw [if_neg Bool.noConfusion]
      unfold State.disableHead
      exact if_pos off

/-- A write to CONTROL that raises RUN: the enables, and then the start. -/
theorem State.writeControl_of_rise (going : s.regs.resetting = false) (hard : w.getLsbD 3 = false)
    (run : s.regs.run = false) (rises : w.getLsbD 0 = true) :
    s.writeControl w =
      (((s.noted w).writeEnable .A (w.getLsbD 1)).writeEnable .B
        (w.getLsbD 2)).raiseRun.grant := by
  have modes := (State.writeEnable_mode ((s.noted w).writeEnable .A (w.getLsbD 1)) .B
    (w.getLsbD 2)).trans (State.writeEnable_mode (s.noted w) .A (w.getLsbD 1))
  obtain ⟨same, -⟩ := RunState.mk.inj modes
  have low : ∀ t : State, t.regs.run = false → ¬ (t.regs.run = true ∧ ¬ w.getLsbD 0 = true) := fun t stopped both => by
    rw [stopped] at both
    cases both.1
  unfold State.writeControl
  rw [if_neg (by rw [going]; exact Bool.noConfusion), if_neg (by rw [hard]; exact Bool.noConfusion)]
  dsimp only
  rw [← State.noted, if_neg (low (s.noted w) run), same, State.noted_run, run, if_pos ⟨Bool.noConfusion, rises⟩]

/-- A write to CONTROL that lowers RUN: the stop, or the start cancelled, and then the enables. -/
theorem State.writeControl_of_fall (going : s.regs.resetting = false) (hard : w.getLsbD 3 = false)
    (run : s.regs.run = true) (falls : w.getLsbD 0 = false) :
    s.writeControl w =
      (((s.noted w).lowerRun.writeEnable .A (w.getLsbD 1)).writeEnable .B (w.getLsbD 2)).grant := by
  unfold State.writeControl
  rw [if_neg (by rw [going]; exact Bool.noConfusion), if_neg (by rw [hard]; exact Bool.noConfusion)]
  dsimp only
  rw [← State.noted, falls, if_neg fun both => Bool.noConfusion both.2, if_pos ⟨run, Bool.noConfusion⟩]

theorem State.enableHead_of_off {h : Head} (off : (s.head h).state = .off) :
    s.enableHead h = s.setHead h (s.head h).seek := by
  unfold State.enableHead
  exact if_pos off

/-- A start of a machine whose heads are OFF (R5, R167). -/
theorem State.takeStart_of_off (off : ∀ h, (s.head h).state = .off) :
    s.takeStart =
      { s with
        heads :=
          { a := if s.regs.enableA then s.heads.a.seek else s.heads.a
            b := if s.regs.enableB then s.heads.b.seek else s.heads.b }
        engine := { s.engine with scanPending := true }
        regs := { s.regs with run := true, running := true, startWaiting := false } } := by
  have offA : s.heads.a.state = .off := off .A
  have offB : s.heads.b.state = .off := off .B
  unfold State.takeStart
  cases enableA : s.regs.enableA <;> cases enableB : s.regs.enableB <;>
    simp only [State.enableHead, State.setRegs, State.head, State.setHead, State.setEngine, PerHead.get, PerHead.set, offA, offB,
      enableA, enableB, if_true, if_false, Bool.false_eq_true]

end

/-- Settles O6. -/
theorem startTakenOrWaits : Obligations.StartTakenOrWaits := by
  refine ⟨⟨fun w s going run running waiting off rises hard => ?_, fun s waiting stopped off => ?_⟩, fun s ok stopped => ?_,
    fun w s going running hard enableA enableB => ⟨fun rises run => ?_, fun falls run waiting => ?_⟩⟩
  · refine congrArg Host.Outcome.next ?_
    have unstarted : s.regs.started = false := by rw [Regs.started, run, Bool.false_and, Bool.false_and]
    have raises : ∀ t : State, t.regs.running = false → t.raiseRun = t.takeStart := fun t stopped => by
      unfold State.raiseRun
      rw [if_neg (by rw [stopped]; exact Bool.noConfusion)]
    rw [State.writeControl_of_rise going hard run rises,
      State.writeEnable_of_rest (s := s.noted w) (h := .A) _ (off .A) (fun _ => unstarted),
      State.writeEnable_of_rest (s := (s.noted w).setRegs ((s.noted w).regs.setEnable .A (w.getLsbD 1))) (h := .B) _ (off .B)
        (fun _ => unstarted), raises _ (by exact running), State.takeStart_of_off (by exact off)]
    exact (congrArg (fun b => State.grant
      { s with
        heads := _
        engine := _
        regs := { s.regs with run := true, running := true, enableA := _, enableB := _, enables := _, startWaiting := b } })
      waiting).symm
  · show Host.Outcome.next s.takeDeferredStart = _
    unfold State.takeDeferredStart
    rw [if_pos ⟨waiting, by rw [stopped]; exact Bool.noConfusion⟩, State.takeStart_of_off off]
    rfl
  · rcases (State.portOk_iff s).1 ok with ⟨⟨started, -⟩, -⟩ | rest
    · rw [Regs.started, stopped, Bool.and_false] at started
      cases started
    · obtain ⟨-, -, work, results, -, outstanding⟩ := rest.blocks
      exact ⟨(rest.port.stopped stopped).1, work, results, outstanding⟩
  · refine congrArg Host.Outcome.next ?_
    rw [State.writeControl_of_rise going hard run rises, State.writeEnable_noted (h := .A) enableA,
      State.writeEnable_noted (h := .B) enableB]
    unfold State.raiseRun
    exact congrArg State.grant (if_pos running)
  · refine congrArg Host.Outcome.next ?_
    rw [State.writeControl_of_fall going hard run falls, State.lowerRun, if_pos (by exact waiting),
      State.writeEnable_same (h := .A) (by exact enableA), State.writeEnable_same (h := .B) (by exact enableB)]
    rfl

/-! ### The RUN stop -/

section
variable {s : State} {w : Word}

/-- A stop ends at once where no access is in flight (R168). -/
theorem State.runStop_of_running (running : s.regs.running = true) :
    s.runStop = { s.stopped with regs := { s.stopped.regs with running := s.port.isSome } } := by
  rw [State.runStop_eq]
  rcases s.stopped.finishStop_cases with ⟨-, idle, eq⟩ | ⟨going, eq⟩
  · have idle : s.port = none := Option.map_eq_none_iff.1 idle
    rw [eq, idle]
    rfl
  · have stopping : s.stopped.regs.stopping = true := by
      show (s.regs.running && (!false || s.regs.startWaiting)) = true
      rw [running]
      rfl
    have flying : s.port.isSome = s.stopped.regs.running := by
      rw [Option.isSome_iff_ne_none.2 fun idle => going ⟨stopping, Option.map_eq_none_iff.2 idle⟩]
      exact running.symm
    rw [eq, flying]

/-- A RUN stop by a write to CONTROL that changes no enable: the port has nothing to grant after it. -/
theorem State.writeControl_of_stop (going : s.regs.resetting = false) (hard : w.getLsbD 3 = false)
    (run : s.regs.run = true) (running : s.regs.running = true) (waiting : s.regs.startWaiting = false)
    (falls : w.getLsbD 0 = false) (enableA : w.getLsbD 1 = s.regs.enableA) (enableB : w.getLsbD 2 = s.regs.enableB) :
    s.writeControl w =
      { (s.noted w).stopped with regs := { (s.noted w).stopped.regs with running := s.port.isSome } } := by
  have stop : (s.noted w).lowerRun = (s.noted w).runStop := by
    unfold State.lowerRun
    rw [if_neg (by rw [show (s.noted w).regs.startWaiting = false from waiting]; exact Bool.noConfusion)]
  have rest : (s.noted w).runStop.AtRest := State.atRest_runStop (s := s.noted w) going fun stopped => by
    rw [show s.regs.running = false from stopped] at running
    cases running
  have stopped := State.runStop_of_running (s := s.noted w) running
  rw [State.writeControl_of_fall going hard run falls, stop,
    State.writeEnable_same (h := .A) (by rw [stopped]; exact enableA),
    State.writeEnable_same (h := .B) (by rw [stopped]; exact enableB), rest.grant, stopped]
  rfl

/-- The access in flight ends during a stop: RUNNING becomes 0, and a scan that began meanwhile is abandoned (R168). -/
theorem State.accessEnd_of_stop {a : Access} (stopping : s.regs.stopping = true) (granted : s.port = some a)
    (ended : a.delivery = .ended) (failed : Bool) (live : Purpose → State → State) {u : State}
    (effect : (if failed then (s.setPort none).note .fault else (s.setPort none).endedEffect a.purpose) = u)
    (same : u.regs.stopping = s.regs.stopping) (idle : u.port = none) :
    s.accessEnd (fun _ => true) failed live =
      State.grant { u with engine := { u.engine with scan := none }, regs := { u.regs with running := false } } := by
  have ends : s.endAccess a failed (live a.purpose) = u := by
    rw [State.endAccess]
    simp only [ended]
    exact effect
  unfold State.accessEnd
  simp only [granted, if_true, ends]
  rcases u.finishStop_cases with ⟨-, -, eq⟩ | ⟨going, -⟩
  · rw [eq]
  · exact absurd ⟨same.trans stopping, idle⟩ going

end

/-- Settles O7. -/
theorem runStopTakenAndCompleted : Obligations.RunStopTakenAndCompleted := by
  refine ⟨fun w s going run running waiting falls hard enableA enableB => ⟨_, rfl, ?_⟩,
    fun s a stopping granted ended => ?_⟩
  · rw [State.writeControl_of_stop going hard run running waiting falls enableA enableB]
    refine ⟨fun h => (s.noted w).head_stopped h, fun p => (s.noted w).pen_stopped p, fun p => (s.noted w).report_stopped p,
      fun h n => ?_, fun h => ?_, fun h => ?_, rfl, ?_, rfl, rfl⟩
    · show (((s.noted w).stopped.store h).slot n) = _
      rw [(s.noted w).store_stopped h]
      cases n <;> rfl
    · show ((s.noted w).stopped.store h).active = _ ∧ ((s.noted w).stopped.store h).switchPending = none
      rw [(s.noted w).store_stopped h]
      exact ⟨rfl, rfl⟩
    · have menu : ({ (s.noted w).stopped with
          regs := { (s.noted w).stopped.regs with running := s.port.isSome } } : State).menu h = (s.menu h).stop :=
        (s.noted w).menu_stopped h
      rw [menu]
      refine ⟨rfl, rfl, rfl, rfl, rfl, ?_⟩
      unfold MenuUnit.stop undoStack
      cases load : (s.menu h).load with
      | none => rfl
      | some l => cases origin : l.origin <;> simp only [origin]
    · show s.port.map Access.end = _
      cases port : s.port with
      | none => rfl
      | some a =>
        show some a.end = some _
        unfold Access.end
        cases delivery : a.delivery <;> simp only [delivery, reduceCtorEq, if_true, if_false]
  · have completes : ∀ e, exec (.stopComplete e) s =
        .next (s.accessEnd (fun _ => true) (decide (e = .busError)) fun _ t => t) := fun e =>
      congrArg Host.Outcome.next (if_pos stopping)
    refine ⟨?_, fun p header => ?_, fun result => ?_, fun header result => ?_⟩
    · rw [completes]
      exact congrArg Host.Outcome.next (State.accessEnd_of_stop stopping granted ended true _ rfl rfl rfl)
    · rw [completes]
      exact congrArg Host.Outcome.next (State.accessEnd_of_stop stopping granted ended false _
        (u := ((s.setPort none).setReport p { s.report p with seq := (s.report p).seq + 1 }).note .page)
        (by rw [header]; rfl) rfl rfl)
    · rw [completes]
      exact congrArg Host.Outcome.next (State.accessEnd_of_stop stopping granted ended false _
        (u := (s.setPort none).note .request) (by rw [result]; rfl) rfl rfl)
    · rw [completes]
      refine congrArg Host.Outcome.next (State.accessEnd_of_stop stopping granted ended false _ (u := s.setPort none) ?_ rfl rfl)
      show (s.setPort none).endedEffect a.purpose = _
      unfold State.endedEffect
      split
      case h_1 p eq => exact absurd eq (header p)
      case h_2 eq => exact absurd eq result
      case h_3 => rfl

end Sys2Proof.Machine
end

section
/-! PROOF. Words and STROKE items of the stroke link (R1 to R3, R13 to R16, R181). -/

namespace Sys2Proof.Machine

open Sys2Proof

/-! ## Word strobes -/

section
variable {s : State} {h : Head} (w : Word) (parity : Bool)

theorem State.setHead_setHead (x y : HeadRx) : (s.setHead h x).setHead h y = s.setHead h y := by
  simp only [State.setHead, PerHead.set_set]

theorem State.strobe_of_off (off : (s.head h).state = .off) : s.strobe h w parity = s := by
  unfold State.strobe
  exact if_pos off

theorem State.strobe_of_unaligned (live : (s.head h).state ≠ .off) (unaligned : (s.head h).aligned = false) :
    s.strobe h w parity = s.setHead h { s.head h with silence := 0 } := by
  unfold State.strobe
  dsimp only
  rw [if_neg live, unaligned, if_pos Bool.noConfusion]

theorem State.strobe_of_header (live : (s.head h).state ≠ .off) (aligned : (s.head h).aligned = true)
    (fresh : (s.head h).item = []) :
    s.strobe h w parity = (s.setHead h { s.head h with silence := 0 }).headerTaken h w parity := by
  unfold State.strobe
  dsimp only
  rw [if_neg live, if_neg fun no => no aligned, fresh, if_pos rfl]

/-- The next word of an item that is not its last (R2). -/
theorem State.strobe_of_item (live : (s.head h).state ≠ .off) (aligned : (s.head h).aligned = true)
    (begun : (s.head h).item ≠ []) (short : (s.head h).item.length < 6) :
    s.strobe h w parity =
      s.setHead h
        { s.head h with
          silence := 0, item := (s.head h).item ++ [{ data := w, good := goodParity w parity }] } := by
  have room : ((s.head h).item ++ [({ data := w, good := goodParity w parity } : LinkWord)]).length < 7 := by
    rw [List.length_append, List.length_singleton]
    omega
  unfold State.strobe
  dsimp only
  rw [if_neg live, if_neg fun no => no aligned, if_neg begun, if_pos room, State.head_setHead_self, State.setHead_setHead]

/-- The seventh word of an item (R2). -/
theorem State.strobe_of_last (live : (s.head h).state ≠ .off) (aligned : (s.head h).aligned = true)
    (six : (s.head h).item.length = 6) :
    s.strobe h w parity =
      (s.setHead h { s.head h with silence := 0 }).itemTaken h
        ((s.head h).item ++ [{ data := w, good := goodParity w parity }]) := by
  have begun : (s.head h).item ≠ [] := fun none => by
    rw [none] at six
    cases six
  have full : ¬ ((s.head h).item ++ [({ data := w, good := goodParity w parity } : LinkWord)]).length < 7 := by
    rw [List.length_append, List.length_singleton]
    omega
  unfold State.strobe
  dsimp only
  rw [if_neg live, if_neg fun no => no aligned, if_neg begun, if_neg full]

theorem State.headerTaken_stroke (good : goodParity w parity = true) (type : headerType w = 2) :
    s.headerTaken h w parity = s.setHead h { s.head h with item := [{ data := w, good := true }] } := by
  unfold State.headerTaken
  dsimp only
  rw [if_neg fun both => by rw [type] at both; exact absurd both.2 (by decide), if_pos ⟨good, type⟩]

theorem State.headerTaken_bad (bad : goodParity w parity = false ∨ headerType w ≠ 1 ∧ headerType w ≠ 2) :
    s.headerTaken h w parity =
      s.setHead h { s.head h with aligned := false, linkErrors := satInc (s.head h).linkErrors } := by
  have other : ∀ n, n = 1 ∨ n = 2 → ¬ (goodParity w parity = true ∧ headerType w = n) := by
    rintro n is ⟨good, type⟩
    rcases bad with odd | ⟨no_frame, no_stroke⟩
    · rw [odd] at good
      cases good
    · rcases is with rfl | rfl
      · exact no_frame type
      · exact no_stroke type
  unfold State.headerTaken
  dsimp only
  rw [if_neg (other 1 (.inl rfl)), if_neg (other 2 (.inr rfl))]
  rfl

end

theorem foldl_xor {α : Type} (f : α → Bool) (l : List α) (b : Bool) :
    l.foldl (fun b i => xor b (f i)) b = decide ((l.countP f + (if b then 1 else 0)) % 2 = 1) := by
  induction l generalizing b with
  | nil => cases b <;> rfl
  | cons a l ih =>
    rw [List.foldl_cons, ih, List.countP_cons]
    refine decide_eq_decide.2 ?_
    cases b <;> cases f a <;> simp only [Bool.xor_false, Bool.xor_true, Bool.not_true, Bool.not_false,
      Bool.false_eq_true, if_true, if_false] <;> omega

theorem headerType_eq (w : Word) : headerType w = w.toNat / 4096 := by
  have small := w.isLt
  show w.toNat / 2 ^ 12 % 2 ^ (15 - 12 + 1) = _
  omega

/-- Settles O12. -/
theorem wordsTaken : Obligations.WordsTaken := by
  refine ⟨fun h w parity s => ⟨fun off => ?_, fun live unaligned => ?_, fun live aligned begun short => ?_,
    fun live aligned fresh good type => ?_, fun live aligned fresh bad => ?_⟩,
    fun w parity => ⟨foldl_xor _ _ _, headerType_eq w⟩⟩
  · exact congrArg (fun t : State => Host.Outcome.next t.grant) (State.strobe_of_off w parity off)
  · exact congrArg (fun t : State => Host.Outcome.next t.grant) (State.strobe_of_unaligned w parity live unaligned)
  · exact congrArg (fun t : State => Host.Outcome.next t.grant) (State.strobe_of_item w parity live aligned begun short)
  · refine congrArg (fun t : State => Host.Outcome.next t.grant) ?_
    rw [State.strobe_of_header w parity live aligned fresh, State.headerTaken_stroke w parity good type,
      State.head_setHead_self, State.setHead_setHead]
    rfl
  · refine congrArg (fun t : State => Host.Outcome.next t.grant) ?_
    rw [State.strobe_of_header w parity live aligned fresh, State.headerTaken_bad w parity bad,
      State.head_setHead_self, State.setHead_setHead]
    rfl

/-! ## STROKE items -/

/-- The history once a stroke that starts at `step` has cut its newest entry (R14). -/
def cutAt (step : Nat) (older : List Stroke) (newest : Option Stroke) : List Stroke :=
  older ++
  (newest.toList.filter (fun n => !decide (step < n.s0 + n.eff) || decide (n.s0 < step))).map
    (fun n => if step < n.s0 + n.eff then { n with eff := step - n.s0 } else n)

theorem cutNewest_eq (step : Nat) (older : List Stroke) (newest : Option Stroke) (whole : newest = none → older = [])
    (order : ∀ n, newest = some n → n.s0 ≤ step) :
    cutNewest (older ++ newest.toList) step =
      (cutAt step older newest, newest.any (fun n => decide (step < n.s0 + n.eff))) := by
  unfold cutNewest cutAt
  cases newest with
  | none =>
    rw [whole rfl]
    rfl
  | some n =>
    have ordered := order n rfl
    simp only [Option.toList_some, List.getLast?_append, List.getLast?_singleton, Option.some_or, List.dropLast_concat,
      Option.any_some]
    by_cases overlap : step < n.s0 + n.eff
    · by_cases same : step - n.s0 = 0
      · have not_later : ¬ n.s0 < step := by omega
        simp [overlap, same, not_later]
      · have later : n.s0 < step := by omega
        simp [overlap, same, later]
    · simp [overlap]

/-- An item that fails a check (R3). -/
theorem State.itemTaken_none {s : State} {h : Head} {item : List LinkWord} (fails : strokeOf item = none) :
    s.itemTaken h item =
      s.setHead h { s.head h with item := [], linkErrors := satInc (s.head h).linkErrors } := by
  unfold State.itemTaken
  simp only [fails]
  rfl

theorem State.itemTaken_some {s : State} {h : Head} {item : List LinkWord} {st : Stroke} (announces : strokeOf item = some st) :
    s.itemTaken h item =
      s.setHead h
        (if (s.head h).state = .synced then HeadRx.enterStroke { s.head h with item := [] } st
         else { s.head h with item := [] }) := by
  unfold State.itemTaken
  simp only [announces]

/-- Whether R3 discards an item of these seven words. -/
def strokeBad (hd nm x0 y0 x1 y1 ln : LinkWord) : Bool :=
  !(hd.good && nm.good && x0.good && y0.good && x1.good && y1.good && ln.good) ||
  decide (hd.data.toNat / 1024 % 4 = 3) || decide (4095 < x0.data.toNat) || decide (4095 < y0.data.toNat) ||
  decide (4095 < x1.data.toNat) || decide (4095 < y1.data.toNat) || decide (ln.data.toNat = 0) ||
  decide (4095 < ln.data.toNat)

/-- What the words announce where R3 keeps the item (R181). -/
def strokeOfWords (hd nm x0 y0 x1 y1 ln : LinkWord) : Stroke :=
  { kind := if hd.data.toNat / 1024 % 4 = 0 then .vector else if hd.data.toNat / 1024 % 4 = 1 then .point else .text
    view := Fin.ofNat 4 (hd.data.toNat / 256)
    tag := nm.data.toNat / 16 % 2048
    cls := nm.data.toNat % 16
    x0 := x0.data.toNat, y0 := y0.data.toNat, x1 := x1.data.toNat, y1 := y1.data.toNat
    len := ln.data.toNat, s0 := 0, eff := ln.data.toNat }

theorem strokeOf_eq (hd nm x0 y0 x1 y1 ln : LinkWord) :
    strokeOf [hd, nm, x0, y0, x1, y1, ln] =
      if strokeBad hd nm x0 y0 x1 y1 ln then none else some (strokeOfWords hd nm x0 y0 x1 y1 ln) := by
  have kinds : bits hd.data 11 10 = hd.data.toNat / 1024 % 4 := rfl
  have view : Fin.ofNat 4 (bits hd.data 9 8) = Fin.ofNat 4 (hd.data.toNat / 256) :=
    Fin.ext (Nat.mod_mod _ 4)
  have tag : bits nm.data 14 4 = nm.data.toNat / 16 % 2048 := rfl
  have cls : bits nm.data 3 0 = nm.data.toNat % 16 := by
    show nm.data.toNat / 2 ^ 0 % 16 = _
    rw [pow_zero, Nat.div_one]
  have checks : hd.data.toNat / 1024 % 4 ≠ 3 →
      ((hd.good && nm.good && x0.good && y0.good && x1.good && y1.good && ln.good
        && decide (x0.data.toNat ≤ Config.screenMax) && decide (y0.data.toNat ≤ Config.screenMax)
        && decide (x1.data.toNat ≤ Config.screenMax) && decide (y1.data.toNat ≤ Config.screenMax)
        && decide (1 ≤ ln.data.toNat) && decide (ln.data.toNat ≤ 4095)) = true ↔
      ¬ strokeBad hd nm x0 y0 x1 y1 ln = true) := fun known => by
    simp only [strokeBad, known, Bool.or_eq_true, Bool.and_eq_true, decide_eq_true_eq, Bool.not_eq_true',
      not_or, Bool.not_eq_false, decide_false, Bool.false_eq_true, not_false_eq_true, and_true, Nat.not_lt,
      Nat.one_le_iff_ne_zero, and_assoc]
    exact Iff.rfl
  have kind_cases : hd.data.toNat / 1024 % 4 = 3 ∨
      ∃ k, hd.data.toNat / 1024 % 4 ≠ 3 ∧ strokeKindOf hd.data = some k ∧
        k = if hd.data.toNat / 1024 % 4 = 0 then .vector else if hd.data.toNat / 1024 % 4 = 1 then .point else .text := by
    have range : hd.data.toNat / 1024 % 4 < 4 := Nat.mod_lt _ (by decide)
    unfold strokeKindOf
    rw [kinds]
    generalize hd.data.toNat / 1024 % 4 = m at range
    obtain rfl | rfl | rfl | rfl : m = 0 ∨ m = 1 ∨ m = 2 ∨ m = 3 := by omega
    · exact .inr ⟨_, by decide, rfl, rfl⟩
    · exact .inr ⟨_, by decide, rfl, rfl⟩
    · exact .inr ⟨_, by decide, rfl, rfl⟩
    · exact .inl rfl
  rcases kind_cases with unknown | ⟨k, known, kind, is⟩
  · have none_named : strokeKindOf hd.data = none := by
      simp only [strokeKindOf, kinds, unknown]
    have bad : strokeBad hd nm x0 y0 x1 y1 ln = true := by
      simp only [strokeBad, unknown, decide_true, Bool.or_true, Bool.true_or]
    simp only [strokeOf, none_named, bad, if_true]
  · simp only [strokeOf, kind, checks known, view, tag, cls, is, strokeOfWords]
    by_cases bad : strokeBad hd nm x0 y0 x1 y1 ln = true
    · rw [if_neg fun good => good bad, if_pos bad]
    · rw [if_pos bad, if_neg bad]

/-- Settles O13. -/
theorem strokeItemTaken : Obligations.StrokeItemTaken := by
  refine ⟨fun h w parity s st older newest synced aligned counting six announces history whole order => ?_,
    fun h hd nm x0 y0 x1 y1 w parity s live aligned item => ⟨fun bad => ?_, fun good ignores => ?_⟩,
    fun hd nm x0 y0 x1 y1 ln => strokeOf_eq hd nm x0 y0 x1 y1 ln⟩
  · refine congrArg (fun t : State => Host.Outcome.next t.grant) ?_
    have live : (s.head h).state ≠ .off := fun off => by
      rw [synced] at off
      cases off
    rw [State.strobe_of_last w parity live aligned six, State.itemTaken_some announces, State.head_setHead_self,
      State.setHead_setHead, if_pos synced, HeadRx.enterStroke, if_neg (by rw [counting]; exact Bool.noConfusion), history,
      cutNewest_eq _ older newest whole order]
    simp only [decide_eq_true_eq]
    rfl
  · refine congrArg (fun t : State => Host.Outcome.next t.grant) ?_
    have fails : strokeOf ((s.head h).item ++ [{ data := w, good := goodParity w parity }]) = none := by
      rw [item]
      exact (strokeOf_eq _ _ _ _ _ _ _).trans (if_pos bad)
    rw [State.strobe_of_last w parity live aligned (by rw [item]; rfl), State.itemTaken_none fails, State.head_setHead_self,
      State.setHead_setHead]
    rfl
  · refine congrArg (fun t : State => Host.Outcome.next t.grant) ?_
    have announces : strokeOf ((s.head h).item ++ [{ data := w, good := goodParity w parity }]) =
        some (strokeOfWords hd nm x0 y0 x1 y1 { data := w, good := goodParity w parity }) := by
      rw [item]
      exact (strokeOf_eq _ _ _ _ _ _ _).trans (if_neg (by rw [Bool.not_eq_true]; exact good))
    rw [State.strobe_of_last w parity live aligned (by rw [item]; rfl), State.itemTaken_some announces, State.head_setHead_self,
      State.setHead_setHead]
    split
    case isFalse => rfl
    case isTrue synced =>
      have saturated : (s.head h).saturated = true := ignores.resolve_left fun seeking => by
        rw [show (s.head h).state = .synced from synced] at seeking
        cases seeking
      unfold HeadRx.enterStroke
      exact congrArg (s.setHead h) (if_pos saturated)

end Sys2Proof.Machine
end

section
/-! PROOF. What the heads' signals do at a pen, as an effect that depends on that pen and its report path alone. -/

namespace Sys2Proof.Machine

open Sys2Proof

/-! ## The effect of an operation at a pen -/

/-- What an operation at a pen sees of it: the channel, the report path, and whether the port reads a page's state word for it. -/
structure PenView where
  pen : PenChannel
  report : ReportPath
  reading : Bool

def State.penView (s : State) (p : Pen) : PenView :=
  { pen := s.pen p, report := s.report p, reading := s.pageReadInFlight p }

/-- What an operation at a pen does: the pen and the path that it leaves, the LOST note, the answers that it gives, and whether it
disarms the pen, which drops the pen's awaiting records and ends its centre access (R124, R132). -/
structure PenEffect where
  pen : PenChannel
  report : ReportPath
  lost : Bool
  answers : List Result
  gone : Bool

/-- The load without an awaiting record of a pen in the set (R124). -/
def LoadOrigin.dropAwaits (gone : Pen → Bool) (o : LoadOrigin) : LoadOrigin :=
  match o with
  | .setPage slot clear => .setPage slot clear
  | .pageButton w => .pageButton (w.filter (fun a => !gone a.pen))
  | .backButton w => .backButton (w.filter (fun a => !gone a.pen))

def MenuUnit.dropAwaits (gone : Pen → Bool) (m : MenuUnit) : MenuUnit :=
  { m with load := m.load.map (fun l => { l with origin := l.origin.dropAwaits gone }) }

/-- The access with a live centre write of a pen in the set ended (R132). -/
def Access.release (gone : Pen → Bool) (a : Access) : Access :=
  match a.purpose with
  | .centreWord p _ => if gone p = true ∧ a.delivery = .live then { a with delivery := .ended } else a
  | _ => a

/-- The pens that an effect at pen `p` disarms. -/
def PenEffect.goneAt (e : PenEffect) (p q : Pen) : Bool := e.gone && decide (q = p)

/-- The state with an effect at a pen. -/
def State.affect (s : State) (p : Pen) (e : PenEffect) : State :=
  { s with
    pens := s.pens.set p e.pen
    reports := s.reports.set p e.report
    menus := s.menus.map (MenuUnit.dropAwaits (e.goneAt p))
    engine := { s.engine with results := s.engine.results ++ e.answers }
    port := s.port.map (Access.release (e.goneAt p))
    regs := { s.regs with notes := { s.regs.notes with lost := s.regs.notes.lost || e.lost } } }

/-! ### Dropped records and ended accesses -/

theorem LoadOrigin.dropAwaits_none (o : LoadOrigin) : o.dropAwaits (fun _ => false) = o := by
  cases o with
  | setPage => rfl
  | pageButton w => cases w <;> rfl
  | backButton w => cases w <;> rfl

theorem LoadOrigin.dropAwaits_dropAwaits (f g : Pen → Bool) (o : LoadOrigin) :
    (o.dropAwaits f).dropAwaits g = o.dropAwaits (fun p => f p || g p) := by
  have both : ∀ w : Option Await, (w.filter (fun a => !f a.pen)).filter (fun a => !g a.pen) =
      w.filter (fun a => !(f a.pen || g a.pen)) := fun w => by
    cases w with
    | none => rfl
    | some a => cases first : f a.pen <;> cases second : g a.pen <;> simp [Option.filter, first, second]
  cases o with
  | setPage => rfl
  | pageButton w => exact congrArg LoadOrigin.pageButton (both w)
  | backButton w => exact congrArg LoadOrigin.backButton (both w)

theorem MenuUnit.dropAwaits_none (m : MenuUnit) : m.dropAwaits (fun _ => false) = m := by
  obtain ⟨table, current, staging, stack, load, dirty⟩ := m
  cases load with
  | none => rfl
  | some l => simp only [MenuUnit.dropAwaits, LoadOrigin.dropAwaits_none, Option.map_some]

theorem MenuUnit.dropAwaits_dropAwaits (f g : Pen → Bool) (m : MenuUnit) :
    (m.dropAwaits f).dropAwaits g = m.dropAwaits (fun p => f p || g p) := by
  simp only [MenuUnit.dropAwaits, Option.map_map]
  congr 2
  funext l
  simp only [Function.comp_apply, LoadOrigin.dropAwaits_dropAwaits]

theorem Access.release_none (a : Access) : a.release (fun _ => false) = a := by
  unfold Access.release
  split
  case h_1 => exact if_neg fun both => Bool.noConfusion both.1
  case h_2 => rfl

theorem Access.release_purpose (gone : Pen → Bool) (a : Access) : (a.release gone).purpose = a.purpose := by
  unfold Access.release
  split
  case h_1 => split <;> rfl
  case h_2 => rfl

theorem Access.release_of_other {a : Access} (other : ∀ p second, a.purpose ≠ .centreWord p second) (gone : Pen → Bool) :
    a.release gone = a := by
  unfold Access.release
  split
  case h_1 p second is => exact absurd is (other p second)
  case h_2 => rfl

theorem Access.release_of_centre {a : Access} {p : Pen} {second : Bool} (is : a.purpose = .centreWord p second)
    (gone : Pen → Bool) :
    a.release gone = if gone p = true ∧ a.delivery = .live then { a with delivery := .ended } else a := by
  unfold Access.release
  simp only [is]

theorem Access.release_release (f g : Pen → Bool) (a : Access) :
    (a.release f).release g = a.release (fun p => f p || g p) := by
  by_cases other : ∀ p second, a.purpose ≠ .centreWord p second
  · rw [Access.release_of_other other, Access.release_of_other other, Access.release_of_other other]
  · simp only [not_forall, not_not] at other
    obtain ⟨p, second, is⟩ := other
    rw [Access.release_of_centre is f, Access.release_of_centre is]
    by_cases first : f p = true ∧ a.delivery = .live
    · have either : (f p || g p) = true ∧ a.delivery = .live := ⟨by simp only [first.1, Bool.true_or], first.2⟩
      have gone : ¬ (g p = true ∧ Delivery.ended = .live) := fun both => by cases both.2
      rw [if_pos first, Access.release_of_centre (by exact is), if_neg gone, if_pos either]
    · rw [if_neg first, Access.release_of_centre is]
      by_cases live : a.delivery = .live
      · have no : f p = false := by
          by_contra yes
          exact first ⟨eq_true_of_ne_false yes, live⟩
        simp only [no, Bool.false_or]
      · rw [if_neg fun both => live both.2, if_neg fun both => live both.2]

theorem Access.release_reading (gone : Pen → Bool) (a : Access) (p : Pen) :
    (decide ((a.release gone).purpose = .pageState p) && decide ((a.release gone).delivery = .live)) =
      (decide (a.purpose = .pageState p) && decide (a.delivery = .live)) := by
  by_cases is : a.purpose = .pageState p
  · rw [Access.release_of_other fun q second eq => by rw [is] at eq; cases eq]
  · rw [Access.release_purpose, decide_eq_false is, Bool.false_and, Bool.false_and]

/-! ### Effects in a row -/

/-- The effect of one operation and then another. -/
def PenEffect.andThen (e f : PenEffect) : PenEffect :=
  { pen := f.pen, report := f.report, lost := e.lost || f.lost, answers := e.answers ++ f.answers, gone := e.gone || f.gone }

/-- The effect that leaves all as it is. -/
def PenView.still (v : PenView) : PenEffect :=
  { pen := v.pen, report := v.report, lost := false, answers := [], gone := false }

theorem PerHead.map_map {α : Type} (f g : α → α) (x : PerHead α) : (x.map f).map g = x.map (g ∘ f) := rfl

theorem PenEffect.goneAt_of_still {e : PenEffect} (still : e.gone = false) (p : Pen) : e.goneAt p = fun _ => false := by
  funext q
  rw [PenEffect.goneAt, still, Bool.false_and]

theorem PenEffect.goneAt_andThen (e f : PenEffect) (p : Pen) :
    (e.andThen f).goneAt p = fun q => e.goneAt p q || f.goneAt p q := by
  funext q
  simp only [PenEffect.goneAt, PenEffect.andThen, Bool.and_or_distrib_right]

section
variable (s : State) (p : Pen)

/-- An effect that disarms nothing leaves the menu units and the port alone. -/
theorem State.affect_of_still {e : PenEffect} (still : e.gone = false) :
    s.affect p e =
      { s with
        pens := s.pens.set p e.pen
        reports := s.reports.set p e.report
        engine := { s.engine with results := s.engine.results ++ e.answers }
        regs := { s.regs with notes := { s.regs.notes with lost := s.regs.notes.lost || e.lost } } } := by
  have menus : s.menus.map (MenuUnit.dropAwaits fun _ => false) = s.menus := by
    simp only [PerHead.map, MenuUnit.dropAwaits_none]
  have port : s.port.map (Access.release fun _ => false) = s.port := by
    cases s.port with
    | none => rfl
    | some a => exact congrArg some a.release_none
  rw [State.affect, PenEffect.goneAt_of_still still, menus, port]

/-- An effect that disarms its pen. -/
theorem State.affect_of_gone {e : PenEffect} (gone : e.gone = true) :
    s.affect p e =
      { s with
        pens := s.pens.set p e.pen
        reports := s.reports.set p e.report
        menus := s.menus.map (MenuUnit.dropAwaits fun q => decide (q = p))
        engine := { s.engine with results := s.engine.results ++ e.answers }
        port := s.port.map (Access.release fun q => decide (q = p))
        regs := { s.regs with notes := { s.regs.notes with lost := s.regs.notes.lost || e.lost } } } := by
  have mine : e.goneAt p = fun q => decide (q = p) := by
    funext q
    rw [PenEffect.goneAt, gone, Bool.true_and]
  rw [State.affect, mine]

theorem State.affect_affect (e f : PenEffect) : (s.affect p e).affect p f = s.affect p (e.andThen f) := by
  have menus : (s.menus.map (MenuUnit.dropAwaits (e.goneAt p))).map (MenuUnit.dropAwaits (f.goneAt p)) =
      s.menus.map (MenuUnit.dropAwaits ((e.andThen f).goneAt p)) := by
    simp only [PerHead.map, MenuUnit.dropAwaits_dropAwaits, PenEffect.goneAt_andThen]
  have port : (s.port.map (Access.release (e.goneAt p))).map (Access.release (f.goneAt p)) =
      s.port.map (Access.release ((e.andThen f).goneAt p)) := by
    rw [Option.map_map, PenEffect.goneAt_andThen]
    congr 1
    funext a
    exact Access.release_release _ _ a
  simp only [State.affect, PerPen.set_set, menus, port, List.append_assoc, Bool.or_assoc]
  rfl

theorem State.affect_still : s.affect p (s.penView p).still = s := by
  rw [State.affect_of_still s p rfl]
  simp only [PenView.still, State.penView, State.pen, State.report, PerPen.set_get, List.append_nil, Bool.or_false]

theorem State.affect_reading (e : PenEffect) (q : Pen) : (s.affect p e).pageReadInFlight q = s.pageReadInFlight q := by
  unfold State.pageReadInFlight State.affect
  cases s.port with
  | none => rfl
  | some a => exact Access.release_reading _ a q

theorem State.affect_penView_self (e : PenEffect) :
    (s.affect p e).penView p = { pen := e.pen, report := e.report, reading := (s.penView p).reading } := by
  unfold State.penView
  rw [State.affect_reading]
  congr 1
  · exact PerPen.get_set_self _ _ _
  · exact PerPen.get_set_self _ _ _

theorem State.affect_penView_other (e : PenEffect) {q : Pen} (other : q ≠ p) : (s.affect p e).penView q = s.penView q := by
  unfold State.penView
  rw [State.affect_reading]
  congr 1
  · exact (PerPen.get_set _ _ _ _).trans (if_neg other)
  · exact (PerPen.get_set _ _ _ _).trans (if_neg other)

end

/-- The effect keeps the pen with its head, and its mark says whether it disarms the pen. -/
structure PenEffect.Fits (e : PenEffect) (c : PenChannel) : Prop where
  head : e.pen.opts.head = c.opts.head
  gone : e.gone = decide (c.state ≠ .disarmed ∧ e.pen.state = .disarmed)
  stays : c.state = .disarmed → e.pen.state = .disarmed

theorem PenEffect.Fits.andThen {e f : PenEffect} {c : PenChannel} (first : e.Fits c) (second : f.Fits e.pen) :
    (e.andThen f).Fits c where
  head := second.head.trans first.head
  gone := by
    show (e.gone || f.gone) = decide (c.state ≠ .disarmed ∧ f.pen.state = .disarmed)
    rw [first.gone, second.gone]
    by_cases before : c.state = .disarmed
    · simp only [before, first.stays before, ne_eq, not_true_eq_false, false_and, decide_false, Bool.or_self]
    · by_cases between : e.pen.state = .disarmed
      · simp only [before, between, second.stays between, ne_eq, not_false_eq_true, true_and, decide_true, Bool.true_or]
      · simp only [before, between, ne_eq, not_false_eq_true, true_and, and_false, decide_false, Bool.false_or]
  stays before := second.stays (first.stays before)

/-! ## Operations with such an effect -/

/-- On states that satisfy `D` the operation has one and the same effect at pen `p`, seen as `v`. -/
def ActsAt (D : State → Prop) (p : Pen) (v : PenView) (f : State → State) : Prop :=
  ∃ e : PenEffect, e.Fits v.pen ∧ ∀ s : State, s.penView p = v → D s → f s = s.affect p e

/-- What no operation at a pen changes. -/
def Stable (D : State → Prop) : Prop := ∀ s p e, D s → D (s.affect p e)

namespace ActsAt

variable {D : State → Prop} {p : Pen} {v : PenView} {f g : State → State}

theorem congr (same : ∀ s : State, s.penView p = v → D s → f s = g s) (acts : ActsAt D p v g) : ActsAt D p v f := by
  obtain ⟨e, fits, eq⟩ := acts
  exact ⟨e, fits, fun s seen d => (same s seen d).trans (eq s seen d)⟩

/-- One operation after another whose effect is known. -/
theorem after (stable : Stable D) {e : PenEffect} (fits : e.Fits v.pen)
    (first : ∀ s : State, s.penView p = v → D s → f s = s.affect p e)
    (second : ActsAt D p { pen := e.pen, report := e.report, reading := v.reading } g) : ActsAt D p v (fun s => g (f s)) := by
  obtain ⟨e', fits', eq⟩ := second
  refine ⟨e.andThen e', fits.andThen fits', fun s seen d => ?_⟩
  show g (f s) = _
  rw [first s seen d, eq (s.affect p e) (by rw [State.affect_penView_self, seen]) (stable s p e d), State.affect_affect]

/-- One operation after another: the second sees a pen on the same head, disarmed if it was. -/
theorem comp (stable : Stable D) (first : ActsAt D p v f)
    (second : ∀ w : PenView, w.pen.opts.head = v.pen.opts.head → ActsAt D p w g) : ActsAt D p v (fun s => g (f s)) := by
  obtain ⟨e, fits, eq⟩ := first
  exact after stable fits eq (second _ fits.head)

theorem same : ActsAt D p v (fun s => s) :=
  ⟨v.still, ⟨rfl, by simp [PenView.still], fun off => off⟩, fun s seen _ => by rw [← seen, State.affect_still]⟩

theorem setPen {x : PenChannel} (head : x.opts.head = v.pen.opts.head) (state : x.state = .disarmed ↔ v.pen.state = .disarmed) :
    ActsAt D p v (fun s => s.setPen p x) := by
  refine ⟨{ v.still with pen := x }, ⟨head, ?_, state.2⟩, fun s seen _ => ?_⟩
  · simp only [PenView.still, state, ne_eq, not_and_self, decide_false]
  · rw [State.affect_of_still s p rfl, ← seen]
    simp only [PenView.still, State.penView, State.report, PerPen.set_get, List.append_nil, Bool.or_false]
    rfl

/-- The pen itself is replaced and the rest goes on from there. -/
theorem setPen_then (stable : Stable D) {x : PenChannel} (head : x.opts.head = v.pen.opts.head)
    (state : x.state = .disarmed ↔ v.pen.state = .disarmed) (second : ActsAt D p { v with pen := x } g) :
    ActsAt D p v (fun s => g (s.setPen p x)) := by
  refine after stable (e := { v.still with pen := x }) ⟨head, ?_, state.2⟩ (fun s seen _ => ?_) second
  · simp only [PenView.still, state, ne_eq, not_and_self, decide_false]
  · rw [State.affect_of_still s p rfl, ← seen]
    simp only [PenView.still, State.penView, State.report, PerPen.set_get, List.append_nil, Bool.or_false]
    rfl

theorem putReport (x : ReportPath × Bool) : ActsAt D p v (fun s => s.putReport p x) := by
  refine ⟨{ v.still with report := x.1, lost := x.2 }, ⟨rfl, by simp [PenView.still], fun off => off⟩, fun s seen _ => ?_⟩
  rw [State.affect_of_still s p rfl, ← seen]
  simp only [PenView.still, State.penView, State.pen, PerPen.set_get, List.append_nil]
  rfl

/-- The path is replaced and the rest goes on from there. -/
theorem put_then (stable : Stable D) (x : ReportPath × Bool) (second : ActsAt D p { v with report := x.1 } g) :
    ActsAt D p v (fun s => g (s.putReport p x)) := by
  refine after stable (e := { v.still with report := x.1, lost := x.2 }) ⟨rfl, by simp [PenView.still], fun off => off⟩
    (fun s seen _ => ?_) second
  rw [State.affect_of_still s p rfl, ← seen]
  simp only [PenView.still, State.penView, State.pen, PerPen.set_get, List.append_nil]
  rfl

/-- An answer is given and the rest goes on from there. -/
theorem answer_then (stable : Stable D) (slot : SlotNo) (code value : Word) (second : ActsAt D p v g) :
    ActsAt D p v (fun s => g (s.answer slot code value)) := by
  refine after stable (e := { v.still with answers := [{ slot := slot, code := code, value := value }] })
    ⟨rfl, by simp [PenView.still], fun off => off⟩ (fun s seen _ => ?_) second
  rw [State.affect_of_still s p rfl, ← seen]
  simp only [PenView.still, State.penView, State.pen, State.report, PerPen.set_get, Bool.or_false]
  rfl

end ActsAt

/-! ### Disarming -/

theorem LoadOrigin.dropAwait_eq (o : LoadOrigin) (p : Pen) : o.dropAwait p = o.dropAwaits (fun q => decide (q = p)) := by
  have same : (fun a : Await => a.pen != p) = fun a : Await => !decide (a.pen = p) := by
    funext a
    by_cases is : a.pen = p
    · simp only [is, bne_self_eq_false, decide_true, Bool.not_true]
    · simp only [is, bne_iff_ne, ne_eq, not_false_eq_true, decide_false, Bool.not_false]
  cases o with
  | setPage => rfl
  | pageButton w => simp only [LoadOrigin.dropAwait, LoadOrigin.dropAwaits, same]
  | backButton w => simp only [LoadOrigin.dropAwait, LoadOrigin.dropAwaits, same]

section
variable (s : State) (p : Pen)

theorem State.dropAwait_eq : s.dropAwait p = { s with menus := s.menus.map (MenuUnit.dropAwaits fun q => decide (q = p)) } := by
  simp only [State.dropAwait, State.dropAwaitOn, State.setMenu, State.menu, PerHead.set, PerHead.get, PerHead.map,
    MenuUnit.dropAwaits, LoadOrigin.dropAwait_eq]

theorem State.endCentreAccess_eq :
    s.endCentreAccess p = { s with port := s.port.map (Access.release fun q => decide (q = p)) } := by
  unfold State.endCentreAccess
  cases port : s.port with
  | none =>
    simp only
    rw [Option.map_none, ← port]
  | some a =>
    have stays : s = { s with port := some a } := by rw [← port]
    simp only [Option.map_some]
    by_cases mine : a.purpose = .centreWord p false ∨ a.purpose = .centreWord p true
    · obtain ⟨second, is⟩ : ∃ second, a.purpose = .centreWord p second := mine.elim (⟨_, ·⟩) (⟨_, ·⟩)
      rw [Access.release_of_centre is]
      by_cases live : a.delivery = .live
      · rw [if_pos ⟨mine, live⟩, if_pos ⟨decide_eq_true rfl, live⟩]
        rfl
      · rw [if_neg fun both => live both.2, if_neg fun both => live both.2]
        exact stays
    · rw [if_neg fun both => mine both.1]
      have kept : a.release (fun q => decide (q = p)) = a := by
        by_cases other : ∀ q second, a.purpose ≠ .centreWord q second
        · exact Access.release_of_other other _
        · simp only [not_forall, not_not] at other
          obtain ⟨q, second, is⟩ := other
          rw [Access.release_of_centre is, if_neg]
          rintro ⟨here, -⟩
          obtain rfl := of_decide_eq_true here
          cases second
          · exact mine (.inl is)
          · exact mine (.inr is)
      rw [kept]
      exact stays

/-- The end of an arm: the pen's own parts, its awaiting records and its centre access (R27, R29, R132). -/
theorem State.endArm_eq :
    s.endArm p =
      { s with
        pens := s.pens.set p { s.pen p with window := .opened, run := none, lockout := none, track := (s.pen p).track.rest }
        menus := s.menus.map (MenuUnit.dropAwaits fun q => decide (q = p))
        port := s.port.map (Access.release fun q => decide (q = p)) } := by
  simp only [State.endArm, State.dropAwait_eq, State.endCentreAccess_eq, State.clearWindow, State.clearRun, State.setPen, State.pen,
    PerPen.get_set_self, PerPen.set_set]

/-- The effect of a disarm (R29, R30). -/
def PenView.disarmed (v : PenView) : PenEffect :=
  { pen := v.pen.disarmed, report := (v.report.flush none v.reading).1, lost := (v.report.flush none v.reading).2, answers := []
    gone := true }

theorem State.disarm_eq : s.disarm p = s.affect p (s.penView p).disarmed := by
  have reading : ∀ t : State, t.port = s.port.map (Access.release fun q => decide (q = p)) →
      t.pageReadInFlight p = s.pageReadInFlight p := fun t port => by
    unfold State.pageReadInFlight
    rw [port]
    cases s.port with
    | none => rfl
    | some a => exact Access.release_reading _ a p
  unfold State.disarm
  dsimp only
  rw [State.flush_eq, reading _ (by rw [State.setPen_port, State.endArm_eq]), State.endArm_eq]
  rw [State.affect_of_gone s p rfl]
  simp only [State.putReport, State.setPen, State.pen, State.report, PerPen.get_set_self, PerPen.set_set,
    PenView.disarmed, State.penView, List.append_nil]
  rfl

end

theorem PenChannel.calibrationEnded_off {c : PenChannel} (live : c.state ≠ .disarmed) (d : PenChannel) :
    d.calibrationEnded.state = .disarmed ↔ c.state = .disarmed :=
  ⟨fun off => PenState.noConfusion (show PenState.armed = .disarmed from off), fun off => absurd off live⟩

namespace ActsAt

variable {D : State → Prop} {p : Pen} {v : PenView}

theorem disarm (live : v.pen.state ≠ .disarmed) : ActsAt D p v (fun s => s.disarm p) := by
  refine ⟨v.disarmed, ⟨rfl, ?_, fun off => absurd off live⟩, fun s seen _ => seen ▸ s.disarm_eq p⟩
  exact (decide_eq_true ⟨live, rfl⟩).symm

/-! ### The operations at a pen -/

theorem stage (record : Record) : ActsAt D p v (fun s => s.stage p record) :=
  (putReport (v.report.stage record)).congr fun s seen _ => by
    rw [State.stage_eq, ← seen]
    rfl

theorem reportBoundary : ActsAt D p v (fun s => s.reportBoundary p) :=
  (putReport v.report.boundary).congr fun s seen _ => by
    rw [State.reportBoundary_eq, ← seen]
    rfl

/-- A change of the pen's own parts that keeps its state and its head. -/
theorem own {f : State → State} (x : PenChannel) (head : x.opts.head = v.pen.opts.head) (state : x.state = v.pen.state)
    (eq : ∀ s : State, s.pen p = v.pen → f s = s.setPen p x) : ActsAt D p v f :=
  (setPen head (by rw [state])).congr fun s seen _ => eq s (seen ▸ rfl)

theorem clearWindow : ActsAt D p v (fun s => s.clearWindow p) :=
  own { v.pen with window := .opened } rfl rfl fun s seen => by rw [State.clearWindow, seen]

theorem clearRun : ActsAt D p v (fun s => s.clearRun p) :=
  own { v.pen with run := none, lockout := none } rfl rfl fun s seen => by rw [State.clearRun, seen]

theorem count (f : PenCounters → PenCounters) : ActsAt D p v (fun s => s.count p f) :=
  own { v.pen with counters := f v.pen.counters } rfl rfl fun s seen => by rw [State.count, seen]

theorem runJudgement (frame : Long) : ActsAt D p v (fun s => s.runJudgement p frame) :=
  own { v.pen with
      run := v.pen.run.filter (fun r => decide (v.pen.state ≠ .calibrating) && r.last == prevFrame frame)
      lockout := v.pen.lockout.filter (fun l => decide (v.pen.state ≠ .calibrating) && l.last == prevFrame frame) }
    rfl rfl fun s seen => by rw [State.runJudgement, seen]

variable (stable : Stable D)
include stable

theorem ite {f g : State → State} {b : State → Prop} [∀ s, Decidable (b s)] {B : PenView → Prop}
    (same : ∀ s : State, b s ↔ B (s.penView p)) (yes : B v → ActsAt D p v f) (no : ¬ B v → ActsAt D p v g) :
    ActsAt D p v (fun s => if b s then f s else g s) := by
  by_cases is : B v
  · exact (yes is).congr fun s seen _ => if_pos ((same s).2 (seen ▸ is))
  · exact (no is).congr fun s seen _ => if_neg fun now => is (seen ▸ (same s).1 now)

theorem endCalibration (live : v.pen.state ≠ .disarmed) (k : Calibration) (code value : Word) :
    ActsAt D p v (fun s => s.endCalibration p k code value) := by
  have ended : ActsAt D p v (fun s => (s.answer k.slot code value).setPen p v.pen.calibrationEnded) :=
    answer_then (g := fun s => s.setPen p v.pen.calibrationEnded) stable _ _ _
      (setPen rfl (PenChannel.calibrationEnded_off live _))
  exact ended.congr fun s seen _ => by
    rw [State.endCalibration_eq, show s.pen p = v.pen from seen ▸ rfl]

theorem disturb : ActsAt D p v (fun s => s.disturb p) := by
  have rests : (v.pen.state ≠ .calibrating ∨ v.pen.calib = none) → ActsAt D p v (fun s => s.disturb p) := fun no =>
    same.congr fun s seen _ => by
      unfold State.disturb
      split
      case h_1 k state calib =>
        rw [show s.pen p = v.pen from seen ▸ rfl] at state calib
        rcases no with other | none_measured
        · exact absurd state other
        · rw [none_measured] at calib
          cases calib
      case h_2 => rfl
  by_cases state : v.pen.state = .calibrating
  · cases calib : v.pen.calib with
    | none => exact rests (.inr calib)
    | some k =>
      have live : v.pen.state ≠ .disarmed := by
        rw [state]
        exact PenState.noConfusion
      refine (endCalibration stable live k codeDisturbed (wordOf k.good)).congr fun s seen _ => ?_
      simp only [State.disturb, show s.pen p = v.pen from seen ▸ rfl, state, calib]
  · exact rests (.inl state)

/-! ### A link loss or a disable -/

theorem windowAbort {frame : Long} (sees : ∀ s, D s → (s.head v.pen.opts.head).frame = frame) (cause : LossCause) :
    ActsAt D p v (fun s => s.windowAbort p cause) := by
  by_cases empty : v.pen.window.table.length = 0
  · refine clearWindow.congr fun s seen _ => ?_
    have pen : s.pen p = v.pen := seen ▸ rfl
    unfold State.windowAbort
    dsimp only
    rw [pen, if_pos empty]
  · refine (comp (f := fun s => s.stage p (.abort cause v.pen.window.table.length frame)) (g := fun s => s.clearWindow p) stable
      (stage _) fun w _ => clearWindow).congr fun s seen d => ?_
    have pen : s.pen p = v.pen := seen ▸ rfl
    unfold State.windowAbort
    dsimp only
    rw [pen, if_neg empty, sees s d]

theorem trackLoss (cause : LossCause) (frame : Long) : ActsAt D p v (fun s => s.trackLoss p cause frame) := by
  refine (comp (f := fun s => s.stage p (.trackLost v.pen.track.cx v.pen.track.cy cause frame))
    (g := fun s => s.setPen p { s.pen p with track := { (s.pen p).track.dropSums with fix := .lost, miss := 0 } }) stable (stage _)
    fun w _ => own { w.pen with track := { w.pen.track.dropSums with fix := .lost, miss := 0 } } rfl rfl
      fun s seen => by rw [seen]).congr fun s seen _ => ?_
  have pen : s.pen p = v.pen := seen ▸ rfl
  unfold State.trackLoss
  dsimp only
  rw [pen]

theorem trackAbort {frame : Long} (sees : ∀ s, D s → (s.head v.pen.opts.head).frame = frame) (cause : LossCause) :
    ActsAt D p v (fun s => s.trackAbort p cause) := by
  by_cases tracking : v.pen.track.fix = .tracking
  · refine (trackLoss stable cause frame).congr fun s seen d => ?_
    have pen : s.pen p = v.pen := seen ▸ rfl
    unfold State.trackAbort
    dsimp only
    rw [pen, if_pos tracking, sees s d]
  · refine own { v.pen with track := { v.pen.track.dropSums with miss := 0 } } rfl rfl fun s pen => ?_
    unfold State.trackAbort
    dsimp only
    rw [pen, if_neg tracking]

/-- A link loss or a disable looks at its head's frame number and no further (R34). -/
theorem penLoss {frame : Long} (sees : ∀ s, D s → (s.head v.pen.opts.head).frame = frame) (cause : LossCause) :
    ActsAt D p v (fun s => State.penLoss cause s p) := by
  refine comp (f := fun s => s.disturb p) (g := fun s =>
    let s := s.setPen p { s.pen p with deadMark := none }
    if (s.pen p).state = .disarmed then s
    else if (((s.windowAbort p cause).clearRun p).pen p).opts.mode = .track then
      ((s.windowAbort p cause).clearRun p).trackAbort p cause
    else (s.windowAbort p cause).clearRun p) stable (disturb stable) fun w head => ?_
  refine comp (f := fun s => s.setPen p { s.pen p with deadMark := none }) (g := fun s =>
    if (s.pen p).state = .disarmed then s
    else if (((s.windowAbort p cause).clearRun p).pen p).opts.mode = .track then
      ((s.windowAbort p cause).clearRun p).trackAbort p cause
    else (s.windowAbort p cause).clearRun p) stable
    (own { w.pen with deadMark := none } rfl rfl fun s seen => by rw [seen]) fun w' head' => ?_
  have sees' : ∀ u : PenView, u.pen.opts.head = w'.pen.opts.head → ∀ s, D s → (s.head u.pen.opts.head).frame = frame :=
    fun u same s d => by rw [same, head', head]; exact sees s d
  refine ite stable (B := fun v => v.pen.state = .disarmed) (fun _ => Iff.rfl) (fun _ => same) fun _ => ?_
  refine comp (f := fun s => (s.windowAbort p cause).clearRun p)
    (g := fun s => if (s.pen p).opts.mode = .track then s.trackAbort p cause else s) stable
    (comp (f := fun s => s.windowAbort p cause) (g := fun s => s.clearRun p) stable
      (windowAbort stable (sees' w' rfl) cause) fun u _ => clearRun) fun u head'' => ?_
  exact ite stable (B := fun v => v.pen.opts.mode = .track) (fun _ => Iff.rfl)
    (fun _ => trackAbort stable (sees' u head'') cause) fun _ => same

/-! ### A switch of the context -/

theorem switchPen : ActsAt D p v (fun s => s.switchPen p) := by
  refine comp (f := fun s => s.disturb p) (g := fun s =>
    if (s.pen p).state = .armed then
      if ((s.clearRun p).pen p).opts.mode = .track then
        (s.clearRun p).setPen p { (s.clearRun p).pen p with track := ((s.clearRun p).pen p).track.dropSums }
      else s.clearRun p
    else s) stable (disturb stable) fun w _ => ?_
  refine ite stable (B := fun v => v.pen.state = .armed) (fun _ => Iff.rfl) (fun _ => ?_) fun _ => same
  refine comp (f := fun s => s.clearRun p) (g := fun s =>
    if (s.pen p).opts.mode = .track then s.setPen p { s.pen p with track := (s.pen p).track.dropSums } else s) stable clearRun
    fun u _ => ?_
  exact ite stable (B := fun v => v.pen.opts.mode = .track) (fun _ => Iff.rfl)
    (fun _ => own { u.pen with track := u.pen.track.dropSums } rfl rfl fun s seen => by rw [seen]) fun _ => same

/-! ### A frame start's signal -/

section
variable {ctx : Option (List Word)} (sees : ∀ s, D s → s.activeCtx v.pen.opts.head = ctx)
include sees

theorem decision (live : v.pen.state ≠ .disarmed) (reason : CloseReason) (frame : Long) :
    ActsAt D p v (fun s => s.decision p reason frame) := by
  cases won : ctx.bind (fun ws => winnerOf ws (eligibleOf ctx v.pen.window)) with
  | none =>
    refine (comp (f := fun s => s.count p PenCounters.incEmpty) (g := fun s => s.clearWindow p) stable (count _)
      fun w _ => clearWindow).congr fun s seen d => ?_
    have pen : s.pen p = v.pen := seen ▸ rfl
    simp only [State.decision, pen, sees s d, won]
  | some e =>
    have cleared : ∀ g, ActsAt D p { v with
          pen := { v.pen with window := .opened }
          report := (v.report.stage (.pick (pickRecordOf (ctx.getD []) v.pen.window (eligibleOf ctx v.pen.window) e reason frame))).1 } g →
        ActsAt D p v (fun s => g ((s.stage p
          (.pick (pickRecordOf (ctx.getD []) v.pen.window (eligibleOf ctx v.pen.window) e reason frame))).clearWindow p)) := fun g acts =>
      (put_then (g := fun s => g (s.setPen p { v.pen with window := .opened })) stable _
        (setPen_then stable rfl Iff.rfl acts)).congr fun s seen _ => by
          have pen : s.pen p = v.pen := seen ▸ rfl
          have report : s.report p = v.report := seen ▸ rfl
          rw [State.stage_eq, report, State.clearWindow]
          exact congrArg (fun x : PenChannel => g ((s.putReport p _).setPen p { x with window := .opened })) pen
    by_cases single : v.pen.opts.single = true
    · refine (cleared (fun s => s.disarm p) (disarm live)).congr fun s seen d => ?_
      have pen : s.pen p = v.pen := seen ▸ rfl
      simp only [State.decision, pen, sees s d, won, single, if_true]
    · refine (cleared (fun s => s) same).congr fun s seen d => ?_
      have pen : s.pen p = v.pen := seen ▸ rfl
      simp only [State.decision, pen, sees s d, won, single, Bool.false_eq_true, if_false]

theorem idleJudgement (live : v.pen.state ≠ .disarmed) (frame : Long) : ActsAt D p v (fun s => s.idleJudgement p frame) := by
  cases active : ctx with
  | none =>
    refine same.congr fun s seen d => ?_
    have pen : s.pen p = v.pen := seen ▸ rfl
    simp only [State.idleJudgement, pen, sees s d, active]
  | some ws =>
    have rests : (ctxIdle ws = 0 ∨ v.pen.window.table = []) ∨
        v.pen.window.table.any (fun e => e.lastHit == prevFrame frame) = true →
        ActsAt D p v (fun s => s.idleJudgement p frame) := fun no => same.congr fun s seen d => by
      have pen : s.pen p = v.pen := seen ▸ rfl
      rcases no with off | hit
      · simp only [State.idleJudgement, pen, sees s d, active, if_pos off]
      · simp only [State.idleJudgement, pen, sees s d, active, if_pos hit, ite_self]
    by_cases off : ctxIdle ws = 0 ∨ v.pen.window.table = []
    · exact rests (.inl off)
    by_cases hit : v.pen.window.table.any (fun e => e.lastHit == prevFrame frame) = true
    · exact rests (.inr hit)
    have counted : ∀ g, ActsAt D p { v with pen := { v.pen with window := { v.pen.window with idle := v.pen.window.idle + 1 } } } g →
        ActsAt D p v (fun s => g (s.setPen p { v.pen with window := { v.pen.window with idle := v.pen.window.idle + 1 } })) :=
      fun g acts => setPen_then stable rfl Iff.rfl acts
    by_cases last : v.pen.window.idle + 1 = ctxIdle ws
    · refine (counted (fun s => s.decision p .idle frame) (decision
        (v := { v with pen := { v.pen with window := { v.pen.window with idle := v.pen.window.idle + 1 } } })
        stable sees live .idle frame)).congr fun s seen d => ?_
      have pen : s.pen p = v.pen := seen ▸ rfl
      simp only [State.idleJudgement, pen, sees s d, active, if_neg off, if_neg hit, last, if_true]
    · refine (counted (fun s => s) same).congr fun s seen d => ?_
      have pen : s.pen p = v.pen := seen ▸ rfl
      simp only [State.idleJudgement, pen, sees s d, active, if_neg off, if_neg hit, last, if_false]

theorem missJudgement (frame : Long) : ActsAt D p v (fun s => s.missJudgement p frame) := by
  cases active : ctx with
  | none =>
    refine same.congr fun s seen d => ?_
    have pen : s.pen p = v.pen := seen ▸ rfl
    simp only [State.missJudgement, pen, sees s d, active]
  | some ws =>
    by_cases other : v.pen.track.fix ≠ .tracking
    · refine same.congr fun s seen d => ?_
      have pen : s.pen p = v.pen := seen ▸ rfl
      simp only [State.missJudgement, pen, sees s d, active, if_pos other]
    by_cases hit : v.pen.track.lastArm = some (prevFrame frame)
    · refine same.congr fun s seen d => ?_
      have pen : s.pen p = v.pen := seen ▸ rfl
      simp only [State.missJudgement, pen, sees s d, active, if_neg other, if_pos hit]
    have missed : ∀ g, ActsAt D p { v with pen := { v.pen with track := { v.pen.track with miss := v.pen.track.miss + 1 } } } g →
        ActsAt D p v (fun s => g (s.setPen p { v.pen with track := { v.pen.track with miss := v.pen.track.miss + 1 } })) :=
      fun g acts => setPen_then stable rfl Iff.rfl acts
    by_cases gone : ctxLoss ws ≤ v.pen.track.miss + 1
    · refine (missed (fun s => s.trackLoss p .misses frame) (trackLoss stable .misses frame)).congr fun s seen d => ?_
      have pen : s.pen p = v.pen := seen ▸ rfl
      simp only [State.missJudgement, pen, sees s d, active, if_neg other, if_neg hit, if_pos gone]
    · refine (missed (fun s => s) same).congr fun s seen d => ?_
      have pen : s.pen p = v.pen := seen ▸ rfl
      simp only [State.missJudgement, pen, sees s d, active, if_neg other, if_neg hit, if_neg gone]

end

theorem calibrationJudgement (live : v.pen.state ≠ .disarmed) : ActsAt D p v (fun s => s.calibrationJudgement p) := by
  cases calib : v.pen.calib with
  | none =>
    refine same.congr fun s seen _ => ?_
    have pen : s.pen p = v.pen := seen ▸ rfl
    simp only [State.calibrationJudgement, pen, calib]
  | some k =>
    have eq : ∀ s : State, s.penView p = v → s.calibrationJudgement p =
        if k.judge.good = 8 then
          if k.judge.sum < 0 ∨ 4088 ≤ k.judge.sum then s.endCalibration p k.judge codeRange 0
          else
            (s.answer k.judge.slot codeOK (wordOf ((k.judge.sum + 8) / 16).toNat)).setPen p
              { v.pen with delay := ((k.judge.sum + 8) / 16).toNat }.calibrationEnded
        else if k.judge.judged = 32 then s.endCalibration p k.judge codeTimeout (wordOf k.judge.good)
        else s.setPen p { v.pen with calib := some k.judge } := fun s seen => by
      have pen : s.pen p = v.pen := seen ▸ rfl
      rw [State.calibrationJudgement_eq (pen ▸ calib), pen]
    have branches := ite (b := fun _ => k.judge.good = 8) (B := fun _ => k.judge.good = 8) stable (D := D) (p := p) (v := v)
      (f := fun s => if k.judge.sum < 0 ∨ 4088 ≤ k.judge.sum then s.endCalibration p k.judge codeRange 0
          else
            (s.answer k.judge.slot codeOK (wordOf ((k.judge.sum + 8) / 16).toNat)).setPen p
              { v.pen with delay := ((k.judge.sum + 8) / 16).toNat }.calibrationEnded)
      (g := fun s => if k.judge.judged = 32 then s.endCalibration p k.judge codeTimeout (wordOf k.judge.good)
        else s.setPen p { v.pen with calib := some k.judge }) (fun _ => Iff.rfl)
      (fun _ => ite (B := fun _ => k.judge.sum < 0 ∨ 4088 ≤ k.judge.sum) stable (fun _ => Iff.rfl)
        (fun _ => endCalibration stable live _ _ _)
        (fun _ => answer_then
          (g := fun s => s.setPen p { v.pen with delay := ((k.judge.sum + 8) / 16).toNat }.calibrationEnded) stable _ _ _
          (setPen (x := { v.pen with delay := ((k.judge.sum + 8) / 16).toNat }.calibrationEnded) rfl
            (PenChannel.calibrationEnded_off live _))))
      (fun _ => ite (B := fun _ => k.judge.judged = 32) stable (fun _ => Iff.rfl)
        (fun _ => endCalibration stable live _ _ _) (fun _ => setPen rfl Iff.rfl))
    exact branches.congr fun s seen _ => eq s seen

/-- Keeping the state, for a step between two others. -/
theorem judgePen {ctx : Option (List Word)} (sees : ∀ s, D s → s.activeCtx v.pen.opts.head = ctx) (frame : Long) (boundary : Bool) :
    ActsAt D p v (fun s => s.judgePen p frame boundary) := by
  have run : ∀ (w : PenView) g, (∀ x : PenChannel, x.state = w.pen.state → x.opts = w.pen.opts → ActsAt D p { w with pen := x } g) →
      ActsAt D p w (fun s => g (s.runJudgement p frame)) := fun w g acts => by
    refine (setPen_then (v := w) (g := g) (x := { w.pen with
      run := w.pen.run.filter (fun r => decide (w.pen.state ≠ .calibrating) && r.last == prevFrame frame)
      lockout := w.pen.lockout.filter (fun l => decide (w.pen.state ≠ .calibrating) && l.last == prevFrame frame) })
      stable rfl Iff.rfl (acts _ rfl rfl)).congr fun s seen _ => ?_
    have pen : s.pen p = w.pen := seen ▸ rfl
    rw [State.runJudgement, pen]
  have unfolded : ∀ s : State, s.penView p = v → s.judgePen p frame boundary =
      (if v.pen.state = .calibrating then State.calibrationJudgement
        (if v.pen.state = .armed ∧ v.pen.opts.mode = .track then
          State.missJudgement (State.runJudgement
            (if v.pen.state = .armed ∧ v.pen.opts.mode = .pick ∧ ¬ boundary then s.idleJudgement p frame else s) p frame) p frame
        else State.runJudgement
          (if v.pen.state = .armed ∧ v.pen.opts.mode = .pick ∧ ¬ boundary then s.idleJudgement p frame else s) p frame) p
      else if v.pen.state = .armed ∧ v.pen.opts.mode = .track then
          State.missJudgement (State.runJudgement
            (if v.pen.state = .armed ∧ v.pen.opts.mode = .pick ∧ ¬ boundary then s.idleJudgement p frame else s) p frame) p frame
        else State.runJudgement
          (if v.pen.state = .armed ∧ v.pen.opts.mode = .pick ∧ ¬ boundary then s.idleJudgement p frame else s) p frame) :=
    fun s seen => by
      subst seen
      rfl
  by_cases calibrating : v.pen.state = .calibrating
  · have not_armed : v.pen.state ≠ .armed := fun armed => by
      rw [armed] at calibrating
      cases calibrating
    refine (run v (fun s => s.calibrationJudgement p) fun x state _ => calibrationJudgement stable (by
      show x.state ≠ .disarmed
      rw [state, calibrating]
      exact PenState.noConfusion)).congr fun s seen _ => ?_
    rw [unfolded s seen, if_pos calibrating, if_neg fun both => not_armed both.1, if_neg fun both => not_armed both.1]
  by_cases track : v.pen.state = .armed ∧ v.pen.opts.mode = .track
  · have not_pick : ¬ (v.pen.state = .armed ∧ v.pen.opts.mode = .pick ∧ ¬ boundary = true) := fun both => by
      rw [track.2] at both
      cases both.2.1
    refine (run v (fun s => s.missJudgement p frame) fun x _ opts =>
      missJudgement (v := { v with pen := x }) stable (by rw [opts]; exact sees) frame).congr fun s seen _ => ?_
    rw [unfolded s seen, if_neg calibrating, if_pos track, if_neg not_pick]
  by_cases pick : v.pen.state = .armed ∧ v.pen.opts.mode = .pick ∧ ¬ boundary = true
  · refine (comp (f := fun s => s.idleJudgement p frame) (g := fun s => s.runJudgement p frame) stable
      (idleJudgement stable sees (by rw [pick.1]; exact PenState.noConfusion) frame) fun w _ => runJudgement frame).congr
      fun s seen _ => ?_
    rw [unfolded s seen, if_neg calibrating, if_neg track, if_pos pick]
  · refine (runJudgement frame).congr fun s seen _ => ?_
    rw [unfolded s seen, if_neg calibrating, if_neg track, if_neg pick]

theorem closeAtBoundary {ctx : Option (List Word)} (sees : ∀ s, D s → s.activeCtx v.pen.opts.head = ctx) (frame : Long) :
    ActsAt D p v (fun s => s.closeAtBoundary p frame) :=
  ite (B := fun v => v.pen.state = .armed ∧ v.pen.opts.mode = .pick) stable (fun _ => Iff.rfl)
    (fun pick => decision stable sees (by rw [pick.1]; exact PenState.noConfusion) .boundary frame) fun _ => same

theorem markHeld (held : Bool) : ActsAt D p v (fun s => s.markHeld p held) := by
  have marked : ∀ g, ActsAt D p { v with pen := { v.pen with heldMark := held } } g →
      ActsAt D p v (fun s => g (s.setPen p { v.pen with heldMark := held })) := fun g acts =>
    setPen_then stable rfl Iff.rfl acts
  by_cases begins : held = true ∧ ¬ v.pen.heldMark = true
  · refine (marked (fun s => s.disturb p) (disturb stable)).congr fun s seen _ => ?_
    have pen : s.pen p = v.pen := seen ▸ rfl
    unfold State.markHeld
    dsimp only
    rw [pen, if_pos begins]
  · refine (marked (fun s => s) same).congr fun s seen _ => ?_
    have pen : s.pen p = v.pen := seen ▸ rfl
    unfold State.markHeld
    dsimp only
    rw [pen, if_neg begins]

/-- A frame start's signal looks at the context of its head and no further (R32, R33). -/
theorem signalPen {ctx : Option (List Word)} (sees : ∀ s, D s → s.activeCtx v.pen.opts.head = ctx) (frame : Long)
    (boundary held sync : Bool) : ActsAt D p v (fun s => State.signalPen frame boundary held sync s p) := by
  have judged : ActsAt D p v (fun s => if ¬ (s.pen p).heldMark = true ∧ ¬ sync = true then s.judgePen p frame boundary else s) :=
    ite (B := fun v => ¬ v.pen.heldMark = true ∧ ¬ sync = true) stable (fun _ => Iff.rfl)
      (fun _ => judgePen stable sees frame boundary) fun _ => same
  have closed : ActsAt D p v (fun s => s.judgedAndClosed p frame boundary sync) := by
    refine ite (b := fun _ => boundary = true) (B := fun _ => boundary = true) stable (fun _ => Iff.rfl) (fun _ => ?_) fun _ => judged
    exact comp (g := fun s => s.closeAtBoundary p frame) stable judged fun w head =>
      closeAtBoundary stable (by rw [head]; exact sees) frame
  have taken : ActsAt D p v (fun s => s.signalChannel p frame boundary held sync) :=
    ite (B := fun v => v.pen.state = .disarmed) stable (fun _ => Iff.rfl) (fun _ => same) fun _ =>
      comp (g := fun s => s.markHeld p held) stable closed fun w _ => markHeld stable held
  refine (ite (b := fun _ => boundary = true) (B := fun _ => boundary = true)
    (f := fun s => (s.signalChannel p frame boundary held sync).reportBoundary p) stable (fun _ => Iff.rfl)
    (fun _ => comp (g := fun s => s.reportBoundary p) stable taken fun w _ => reportBoundary) fun _ => taken).congr
    fun s _ _ => State.signalPen_eq s p frame boundary held sync

end ActsAt

end Sys2Proof.Machine
end

section
/-! PROOF. A head's signal at all its pens, a link loss, and the reference periods (R1, R11, R12, R34). -/

namespace Sys2Proof.Machine

open Sys2Proof

/-! ## Effects at several pens -/

/-- The effects at those pens of a list that are in the set, one after another. -/
def State.affectOver (s : State) (on : Pen → Bool) (e : Pen → PenEffect) (l : List Pen) : State :=
  l.foldl (fun t p => if on p then t.affect p (e p) else t) s

section
variable (on : Pen → Bool) (e : Pen → PenEffect) (s : State) (l : List Pen)

theorem State.affectOver_cons (p : Pen) :
    s.affectOver on e (p :: l) = (if on p then s.affect p (e p) else s).affectOver on e l := rfl

/-- What no effect at a pen changes. -/
theorem State.affectOver_same :
    (s.affectOver on e l).heads = s.heads ∧ (s.affectOver on e l).ctx = s.ctx ∧ (s.affectOver on e l).pending = s.pending := by
  induction l generalizing s with
  | nil => exact ⟨rfl, rfl, rfl⟩
  | cons p l ih =>
    rw [State.affectOver_cons]
    obtain ⟨heads, ctx, pending⟩ := ih (if on p then s.affect p (e p) else s)
    rw [heads, ctx, pending]
    split <;> exact ⟨rfl, rfl, rfl⟩

theorem State.affectOver_engine :
    (s.affectOver on e l).engine =
      { s.engine with results := s.engine.results ++ l.flatMap (fun p => if on p then (e p).answers else []) } := by
  induction l generalizing s with
  | nil => simp only [State.affectOver, List.foldl_nil, List.flatMap_nil, List.append_nil]
  | cons p l ih =>
    rw [State.affectOver_cons, ih, List.flatMap_cons]
    split
    case isTrue => simp only [State.affect, List.append_assoc]
    case isFalse => simp only [List.nil_append]

theorem State.affectOver_regs :
    (s.affectOver on e l).regs =
      { s.regs with notes :=
          { s.regs.notes with lost := s.regs.notes.lost || l.any (fun p => on p && (e p).lost) } } := by
  induction l generalizing s with
  | nil => simp only [State.affectOver, List.foldl_nil, List.any_nil, Bool.or_false]
  | cons p l ih =>
    rw [State.affectOver_cons, ih, List.any_cons]
    cases here : on p with
    | true => simp only [if_true, State.affect, Bool.true_and, Bool.or_assoc]
    | false => simp only [Bool.false_eq_true, if_false, Bool.false_and, Bool.false_or]

/-- The pens that a list of effects disarms. -/
def goneOver (q : Pen) : Bool := l.any (fun p => on p && (e p).goneAt p q)

theorem State.affectOver_menus :
    (s.affectOver on e l).menus = s.menus.map (MenuUnit.dropAwaits (goneOver on e l)) := by
  induction l generalizing s with
  | nil =>
    have still : s.menus.map (MenuUnit.dropAwaits fun _ => false) = s.menus := by
      simp only [PerHead.map, MenuUnit.dropAwaits_none]
    exact still.symm
  | cons p l ih =>
    have split_gone : goneOver on e (p :: l) = fun q => (on p && (e p).goneAt p q) || goneOver on e l q := by
      funext q
      rw [goneOver, List.any_cons]
      rfl
    rw [State.affectOver_cons, ih, split_gone]
    cases here : on p with
    | true => simp only [if_true, State.affect, PerHead.map, MenuUnit.dropAwaits_dropAwaits, Bool.true_and]
    | false => simp only [Bool.false_eq_true, if_false, Bool.false_and, Bool.false_or]

theorem State.affectOver_port :
    (s.affectOver on e l).port = s.port.map (Access.release (goneOver on e l)) := by
  induction l generalizing s with
  | nil =>
    cases port : s.port with
    | none => exact port
    | some a => exact port.trans (congrArg some a.release_none.symm)
  | cons p l ih =>
    have split_gone : goneOver on e (p :: l) = fun q => (on p && (e p).goneAt p q) || goneOver on e l q := by
      funext q
      rw [goneOver, List.any_cons]
      rfl
    rw [State.affectOver_cons, ih, split_gone]
    cases here : on p with
    | true =>
      simp only [if_true, State.affect, Option.map_map, Bool.true_and]
      congr 1
      funext a
      exact Access.release_release _ _ a
    | false => simp only [Bool.false_eq_true, if_false, Bool.false_and, Bool.false_or]

theorem State.affectOver_penView_of_not_mem {q : Pen} (absent : q ∉ l) : (s.affectOver on e l).penView q = s.penView q := by
  induction l generalizing s with
  | nil => rfl
  | cons p l ih =>
    have other := List.ne_of_not_mem_cons absent
    have absent := List.not_mem_of_not_mem_cons absent
    rw [State.affectOver_cons, ih _ absent]
    split
    case isTrue => exact s.affect_penView_other p _ other
    case isFalse => rfl

theorem State.affectOver_penView {q : Pen} (present : q ∈ l) (nodup : l.Nodup) :
    (s.affectOver on e l).penView q =
      if on q then { pen := (e q).pen, report := (e q).report, reading := (s.penView q).reading } else s.penView q := by
  induction l generalizing s with
  | nil => cases present
  | cons p l ih =>
    obtain ⟨absent, nodup⟩ := List.nodup_cons.1 nodup
    rw [State.affectOver_cons]
    rcases List.mem_cons.1 present with rfl | present
    · rw [State.affectOver_penView_of_not_mem _ _ _ _ absent]
      split
      case isTrue => exact s.affect_penView_self q _
      case isFalse => rfl
    · have other : q ≠ p := fun same => absent (same ▸ present)
      rw [ih _ present nodup]
      split
      case isTrue =>
        split
        case isTrue => rw [s.affect_penView_other p _ other]
        case isFalse => rfl
      case isFalse =>
        split
        case isTrue => exact s.affect_penView_other p _ other
        case isFalse => rfl

theorem State.affectOver_setHead (h : Head) (x : HeadRx) :
    (s.setHead h x).affectOver on e l = (s.affectOver on e l).setHead h x := by
  induction l generalizing s with
  | nil => rfl
  | cons p l ih =>
    rw [State.affectOver_cons, State.affectOver_cons, ← ih]
    split <;> rfl

end

theorem allPens_nodup : allPens.Nodup := by decide

theorem mem_allPens (p : Pen) : p ∈ allPens := by cases p <;> decide

theorem goneOver_allPens (on : Pen → Bool) (e : Pen → PenEffect) (q : Pen) :
    goneOver on e allPens q = (on q && (e q).gone) := by
  rw [Bool.eq_iff_iff, goneOver, List.any_eq_true]
  simp only [PenEffect.goneAt, Bool.and_eq_true, decide_eq_true_eq]
  exact ⟨fun ⟨p, _, is_on, gone, same⟩ => same ▸ ⟨is_on, gone⟩, fun ⟨is_on, gone⟩ => ⟨q, mem_allPens q, is_on, gone, rfl⟩⟩

section
variable {D : State → Prop} (stable : Stable D) {f : State → Pen → State} {h : Head} {s : State}
include stable

/-- An operation at every pen of a head, whose effect at each pen is known. -/
theorem State.forPensOn_effects {e : Pen → PenEffect}
    (effects : ∀ p, s.penHead p = h → ∀ t : State, t.penView p = s.penView p → D t → f t p = t.affect p (e p)) {t : State}
    (seen : ∀ p, t.penView p = s.penView p) (d : D t) :
    t.forPensOn h f = t.affectOver (fun p => decide (s.penHead p = h)) e allPens := by
  have walk : ∀ (l : List Pen) (t : State), l.Nodup → (∀ p ∈ l, t.penView p = s.penView p) → D t →
      l.foldl (fun t p => if t.penHead p = h then f t p else t) t = t.affectOver (fun p => decide (s.penHead p = h)) e l := by
    intro l
    induction l with
    | nil => exact fun t _ _ _ => rfl
    | cons p l ih =>
      intro t nodup seen d
      obtain ⟨absent, nodup⟩ := List.nodup_cons.1 nodup
      have view := seen p List.mem_cons_self
      have head : t.penHead p = s.penHead p := congrArg (fun v : PenView => v.pen.opts.head) view
      rw [List.foldl_cons, State.affectOver_cons, head]
      by_cases on : s.penHead p = h
      · rw [if_pos on, if_pos (decide_eq_true on), effects p on t view d]
        refine ih _ nodup (fun q mem => ?_) (stable t p (e p) d)
        rw [t.affect_penView_other p _ fun same => absent (same ▸ mem)]
        exact seen q (List.mem_cons_of_mem p mem)
      · rw [if_neg on, if_neg (by simpa using on)]
        exact ih t nodup (fun q mem => seen q (List.mem_cons_of_mem p mem)) d
  exact walk allPens t allPens_nodup (fun p _ => seen p) d

/-- An operation at every pen of a head, where it acts at each pen by what it sees there. -/
theorem State.forPensOn_acts (acts : ∀ p, s.penHead p = h → ActsAt D p (s.penView p) (fun t => f t p)) :
    ∃ e : Pen → PenEffect,
      (∀ p, s.penHead p = h → (e p).Fits (s.pen p) ∧ ∀ t : State, t.penView p = s.penView p → D t → f t p = t.affect p (e p)) ∧
      ∀ t : State, (∀ p, t.penView p = s.penView p) → D t →
        t.forPensOn h f = t.affectOver (fun p => decide (s.penHead p = h)) e allPens := by
  have chosen : ∀ p, ∃ e : PenEffect, s.penHead p = h →
      e.Fits (s.pen p) ∧ ∀ t : State, t.penView p = s.penView p → D t → f t p = t.affect p e := fun p => by
    by_cases on : s.penHead p = h
    · obtain ⟨e, fits, eq⟩ := acts p on
      exact ⟨e, fun _ => ⟨fits, eq⟩⟩
    · exact ⟨(s.penView p).still, fun is => absurd is on⟩
  choose e effects using chosen
  exact ⟨e, effects, fun t seen d => State.forPensOn_effects stable (fun p on => (effects p on).2) seen d⟩

end

/-! ## A link loss or a disable at a pen -/

/-- The pen as a link loss or a disable leaves it, its calibration having ended (R20, R34, R142). -/
def PenChannel.lost (c : PenChannel) : PenChannel :=
  { c with
    deadMark := none, run := none, lockout := none, window := .opened
    track :=
      if c.opts.mode = .track then
        if c.track.fix = .tracking then { c.track.dropSums with fix := .lost, miss := 0 } else { c.track.dropSums with miss := 0 }
      else c.track }

section
variable (cause : LossCause) (s : State) (p : Pen)

/-- The ABORT record of a table with entries (R82). -/
def State.aborted : State :=
  if (s.pen p).window.table.length = 0 then s
  else s.stage p (.abort cause (s.pen p).window.table.length (s.head (s.penHead p)).frame)

/-- The TRACK LOST record of a cross in TRACKING (R142). -/
def State.crossLost : State :=
  if (s.pen p).opts.mode = .track ∧ (s.pen p).track.fix = .tracking then
    (s.aborted cause p).stage p (.trackLost (s.pen p).track.cx (s.pen p).track.cy cause (s.head (s.penHead p)).frame)
  else s.aborted cause p

theorem State.disturb_of_not_calibrating (other : (s.pen p).state ≠ .calibrating) : s.disturb p = s := by
  unfold State.disturb
  split
  case h_1 k state _ => exact absurd state other
  case h_2 => rfl

theorem State.disturb_of_calibrating {k : Calibration} (state : (s.pen p).state = .calibrating) (calib : (s.pen p).calib = some k) :
    s.disturb p = (s.answer k.slot codeDisturbed (wordOf k.good)).setPen p (s.pen p).calibrationEnded := by
  simp only [State.disturb, state, calib]
  rfl

theorem State.penLoss_of_disarmed (off : (s.pen p).state = .disarmed) :
    State.penLoss cause s p = s.setPen p { s.pen p with deadMark := none } := by
  have quiet := s.disturb_of_not_calibrating p (by rw [off]; exact PenState.noConfusion)
  unfold State.penLoss
  dsimp only
  rw [quiet, State.pen_setPen_self, if_pos off]

theorem State.aborted_pen (q : Pen) : (s.aborted cause p).pen q = s.pen q := by
  unfold State.aborted
  split
  case isTrue => rfl
  case isFalse => exact State.pen_stage _ _ _ _

theorem State.penLoss_of_armed (armed : (s.pen p).state = .armed) :
    State.penLoss cause s p = (s.crossLost cause p).setPen p (s.pen p).lost := by
  have quiet := s.disturb_of_not_calibrating p (by rw [armed]; exact PenState.noConfusion)
  have live : ¬ (s.pen p).state = .disarmed := by
    rw [armed]
    exact PenState.noConfusion
  have cleared : ((s.setPen p { s.pen p with deadMark := none }).windowAbort p cause).clearRun p =
      (s.aborted cause p).setPen p { s.pen p with deadMark := none, run := none, lockout := none, window := .opened } := by
    unfold State.windowAbort State.aborted State.clearRun State.clearWindow
    dsimp only
    rw [State.pen_setPen_self]
    split
    case isTrue => simp only [State.pen_setPen_self, State.setPen_setPen]
    case isFalse => simp only [State.stage_setPen, State.pen_setPen_self, State.setPen_setPen]; rfl
  unfold State.penLoss
  dsimp only
  rw [quiet, State.pen_setPen_self, if_neg live, cleared, State.pen_setPen_self]
  unfold State.crossLost PenChannel.lost
  by_cases track : (s.pen p).opts.mode = .track
  · by_cases tracking : (s.pen p).track.fix = .tracking
    · rw [if_pos track, if_pos ⟨track, tracking⟩, if_pos track, if_pos tracking]
      unfold State.trackAbort
      dsimp only
      rw [State.pen_setPen_self, if_pos tracking, State.trackLoss_setPen]
      have frame : ((s.aborted cause p).head (s.pen p).opts.head).frame = (s.head (s.penHead p)).frame := by
        unfold State.aborted
        split
        case isTrue => rfl
        case isFalse => simp [State.head, State.penHead]
      rw [show ∀ x, ((s.aborted cause p).setPen p x).head = (s.aborted cause p).head from fun _ => rfl, frame]

    · rw [if_pos track, if_neg fun both => tracking both.2, if_pos track, if_neg tracking]
      unfold State.trackAbort
      dsimp only
      rw [State.pen_setPen_self, if_neg tracking, State.setPen_setPen]
  · rw [if_neg track, if_neg fun both => track both.1, if_neg track]

/-- A calibration ends first, and the pen, ARMED again, loses the rest. -/
theorem State.penLoss_of_calibrating {k : Calibration} (state : (s.pen p).state = .calibrating)
    (calib : (s.pen p).calib = some k) :
    State.penLoss cause s p =
      State.penLoss cause ((s.answer k.slot codeDisturbed (wordOf k.good)).setPen p (s.pen p).calibrationEnded) p := by
  have ended := s.disturb_of_calibrating p state calib
  have quiet := ((s.answer k.slot codeDisturbed (wordOf k.good)).setPen p (s.pen p).calibrationEnded).disturb_of_not_calibrating p
    (by rw [State.pen_setPen_self]; exact PenState.noConfusion)
  unfold State.penLoss
  rw [ended, quiet]

/-- The answers that a link loss or a disable gives for a pen (R149). -/
def PenChannel.disturbed (c : PenChannel) : List Result :=
  match c.state, c.calib with
  | .calibrating, some k => [{ slot := k.slot, code := codeDisturbed, value := wordOf k.good }]
  | _, _ => []

theorem State.disturb_engine :
    (s.disturb p).engine = { s.engine with results := s.engine.results ++ (s.pen p).disturbed } := by
  unfold State.disturb PenChannel.disturbed
  cases state : (s.pen p).state with
  | calibrating =>
    cases calib : (s.pen p).calib with
    | none => simp only [List.append_nil]
    | some k => simp only; rfl
  | armed => simp only [List.append_nil]
  | disarmed => simp only [List.append_nil]

theorem State.penLoss_engine :
    (State.penLoss cause s p).engine = { s.engine with results := s.engine.results ++ (s.pen p).disturbed } := by
  rw [← State.disturb_engine]
  unfold State.penLoss
  dsimp only
  split
  case isTrue => rfl
  case isFalse => split <;> simp [State.clearRun]

end

/-! ## A link loss or a disable at all pens of a head -/

/-- The pens of a head. -/
def State.penOn (s : State) (h : Head) (p : Pen) : Bool := decide (s.penHead p = h)

theorem State.penOn_iff {s : State} {h : Head} {p : Pen} : s.penOn h p = true ↔ s.penHead p = h := decide_eq_true_iff

theorem State.forPensOn_penLoss (cause : LossCause) (s : State) (h : Head) :
    ∃ e : Pen → PenEffect,
      (∀ p, s.penHead p = h → State.penLoss cause s p = s.affect p (e p)) ∧
      ∀ t : State, (∀ p, t.penView p = s.penView p) → (t.head h).frame = (s.head h).frame →
        t.forPensOn h (State.penLoss cause) = t.affectOver (s.penOn h) e allPens := by
  obtain ⟨e, effects, all⟩ := State.forPensOn_acts (D := fun t => (t.head h).frame = (s.head h).frame) (s := s) (h := h)
    (f := State.penLoss cause) (fun _ _ _ d => d) fun p on =>
      ActsAt.penLoss (fun _ _ _ d => d) (fun t d => (by rw [show (s.penView p).pen.opts.head = h from on]; exact d)) cause
  refine ⟨e, fun p on => ?_, all⟩
  obtain ⟨-, eq⟩ := effects p on
  exact eq s rfl rfl

section
variable {cause : LossCause} {s t : State} {h : Head} {e : Pen → PenEffect}
  (eq : ∀ p, s.penHead p = h → State.penLoss cause s p = s.affect p (e p))
include eq

theorem State.penLoss_answers (p : Pen) (on : s.penHead p = h) : (e p).answers = (s.pen p).disturbed := by
  have engine := s.penLoss_engine cause p
  rw [eq p on] at engine
  exact List.append_cancel_left (congrArg Engine.results engine)

theorem State.lossOver_engine :
    (t.affectOver (s.penOn h) e allPens).engine =
      { t.engine with
        results := t.engine.results ++ allPens.flatMap (fun p => if s.penHead p = h then (s.pen p).disturbed else []) } := by
  have answers : (fun p => if s.penOn h p then (e p).answers else []) =
      fun p => if s.penHead p = h then (s.pen p).disturbed else [] := by
    funext p
    by_cases on : s.penHead p = h
    · rw [if_pos (State.penOn_iff.2 on), if_pos on, State.penLoss_answers eq p on]
    · rw [if_neg (on ∘ State.penOn_iff.1), if_neg on]
  rw [State.affectOver_engine, answers]

theorem State.lossOver_lost (lost : t.regs.notes.lost = s.regs.notes.lost) :
    (t.affectOver (s.penOn h) e allPens).regs =
      { t.regs with notes :=
          { t.regs.notes with
            lost := s.regs.notes.lost ||
              allPens.any (fun p => decide (s.penHead p = h) && (State.penLoss cause s p).regs.notes.lost) } } := by
  have notes : (s.regs.notes.lost || allPens.any fun p => s.penOn h p && (e p).lost) =
      (s.regs.notes.lost ||
        allPens.any (fun p => decide (s.penHead p = h) && (State.penLoss cause s p).regs.notes.lost)) := by
    cases was : s.regs.notes.lost with
    | true => rw [Bool.true_or, Bool.true_or]
    | false =>
      have each : ∀ p, (s.penOn h p && (e p).lost) =
          (decide (s.penHead p = h) && (State.penLoss cause s p).regs.notes.lost) := fun p => by
        by_cases on : s.penHead p = h
        · rw [eq p on, State.affect, was, Bool.false_or]
          rfl
        · rw [State.penOn, decide_eq_false on, Bool.false_and, Bool.false_and]
      simp only [each]
  rw [State.affectOver_regs, lost, notes]

theorem State.lossOver_pen (seen : ∀ p, t.penView p = s.penView p) (p : Pen) :
    (s.penHead p ≠ h → (t.affectOver (s.penOn h) e allPens).pen p = s.pen p ∧
      (t.affectOver (s.penOn h) e allPens).report p = s.report p) ∧
    (s.penHead p = h → (t.affectOver (s.penOn h) e allPens).pen p = (State.penLoss cause s p).pen p ∧
      (t.affectOver (s.penOn h) e allPens).report p = (State.penLoss cause s p).report p) := by
  have view := t.affectOver_penView (s.penOn h) e allPens (mem_allPens p) allPens_nodup
  have fields : ∀ {u w : PenView}, u = w → u.pen = w.pen ∧ u.report = w.report := fun same => same ▸ ⟨rfl, rfl⟩
  constructor
  · intro off
    rw [if_neg (off ∘ State.penOn_iff.1), seen] at view
    exact fields view
  · intro on
    rw [if_pos (State.penOn_iff.2 on)] at view
    obtain ⟨pen, report⟩ := fields view
    obtain ⟨pen', report'⟩ := fields (s.affect_penView_self p (e p))
    rw [eq p on]
    exact ⟨pen.trans pen'.symm, report.trans report'.symm⟩

end

/-- What a link loss or a disable leaves of a pen that was DISARMED or ARMED. -/
theorem State.penLoss_pen (cause : LossCause) (s : State) (p : Pen) :
    ((s.pen p).state = .disarmed → (State.penLoss cause s p).pen p = { s.pen p with deadMark := none }) ∧
    ((s.pen p).state = .armed → (State.penLoss cause s p).pen p = (s.pen p).lost) := by
  constructor
  · intro off
    rw [s.penLoss_of_disarmed cause p off, State.pen_setPen_self]
  · intro armed
    rw [s.penLoss_of_armed cause p armed, State.pen_setPen_self]

section
variable (s : State) (h : Head)

/-- A receiver as a link loss leaves it (R5, R11). -/
def HeadRx.lostLink (x : HeadRx) : HeadRx :=
  { x.seek with linkTimer := Config.linkTimeout, linkLosses := satInc x.linkLosses }

theorem State.loseLink_of_synced (synced : (s.head h).state = .synced) :
    s.loseLink h = ((s.setHead h (s.head h).lostLink).note .fault).forPensOn h (State.penLoss .linkLoss) := by
  unfold State.loseLink
  exact if_pos synced

theorem State.setHead_comm {k : Head} (other : k ≠ h) (x y : HeadRx) :
    (s.setHead k y).setHead h x = (s.setHead h x).setHead k y := by
  match h, k, other with
  | .A, .B, _ => rfl
  | .B, .A, _ => rfl
  | .A, .A, other => exact absurd rfl other
  | .B, .B, other => exact absurd rfl other

theorem State.frame_lostLink : ((s.setHead h (s.head h).lostLink).head h).frame = (s.head h).frame := by
  rw [State.head_setHead_self]
  rfl

/-- A link loss looks at no other receiver. -/
theorem State.loseLink_setHead {k : Head} (other : k ≠ h) (y : HeadRx) :
    (s.setHead k y).loseLink h = (s.loseLink h).setHead k y := by
  have head : (s.setHead k y).head h = s.head h := (s.head_setHead k y h).trans (if_neg (Ne.symm other))
  by_cases synced : (s.head h).state = .synced
  · obtain ⟨e, -, all⟩ := State.forPensOn_penLoss .linkLoss s h
    have mine := all ((s.setHead h (s.head h).lostLink).note .fault) (fun _ => rfl)
      (s.frame_lostLink h)
    have both := all (((s.setHead h (s.head h).lostLink).setHead k y).note .fault) (fun _ => rfl)
      ((congrArg HeadRx.frame (((s.setHead h (s.head h).lostLink).head_setHead k y h).trans (if_neg (Ne.symm other)))).trans
        (s.frame_lostLink h))
    rw [s.loseLink_of_synced h synced, State.loseLink_of_synced _ h (head.symm ▸ synced), head, s.setHead_comm h other, mine, both]
    exact State.affectOver_setHead _ _ ((s.setHead h _).note .fault) _ k y
  · unfold State.loseLink
    rw [head, if_neg synced, if_neg synced]

end

/-- A lost pen's cross is not in TRACKING, its sums are empty and its centre stays (R142). -/
theorem PenChannel.lost_track (c : PenChannel) (track : c.opts.mode = .track) :
    c.lost.track.fix ≠ .tracking ∧ c.lost.track.nX = 0 ∧ c.lost.track.nY = 0 ∧ c.lost.track.cx = c.track.cx ∧
    c.lost.track.cy = c.track.cy := by
  unfold PenChannel.lost
  rw [if_pos track]
  split
  case isTrue => exact ⟨Fix.noConfusion, rfl, rfl, rfl, rfl⟩
  case isFalse other => exact ⟨other, rfl, rfl, rfl, rfl⟩

theorem PenChannel.lost_of_tracking (c : PenChannel) (track : c.opts.mode = .track) (tracking : c.track.fix = .tracking) :
    c.lost =
      { c with
        deadMark := none, run := none, lockout := none, window := .opened
        track := { c.track.dropSums with fix := .lost, miss := 0 } } := by
  rw [PenChannel.lost, if_pos track, if_pos tracking]

theorem PenChannel.lost_of_not_tracking (c : PenChannel) (track : c.opts.mode = .track) (other : c.track.fix ≠ .tracking) :
    c.lost =
      { c with
        deadMark := none, run := none, lockout := none, window := .opened, track := { c.track.dropSums with miss := 0 } } := by
  rw [PenChannel.lost, if_pos track, if_neg other]

theorem State.setPen_of_pens {s t : State} {p : Pen} (same : t.pens = s.pens) (d : PenChannel) :
    t.setPen p d = { t with pens := s.pens.set p d } := by
  rw [State.setPen, same]

section
variable (cause : LossCause) (s : State) (p : Pen)

theorem State.aborted_eq :
    s.aborted cause p =
      if (s.pen p).window.table = [] then s
      else s.stage p (.abort cause (s.pen p).window.table.length (s.head (s.penHead p)).frame) :=
  if_congr List.length_eq_zero_iff rfl rfl

theorem State.aborted_pens : (s.aborted cause p).pens = s.pens := by
  unfold State.aborted
  split
  case isTrue => rfl
  case isFalse => exact State.stage_pens _ _ _

/-- The loss of a pen whose calibration has just ended: its window is open and empty. -/
theorem State.penLoss_of_ended (k : Calibration) :
    State.penLoss cause ((s.answer k.slot codeDisturbed (wordOf k.good)).setPen p (s.pen p).calibrationEnded) p =
      (if (s.pen p).opts.mode = .track ∧ (s.pen p).track.fix = .tracking then
        (s.answer k.slot codeDisturbed (wordOf k.good)).stage p
          (.trackLost (s.pen p).track.cx (s.pen p).track.cy cause (s.head (s.penHead p)).frame)
       else s.answer k.slot codeDisturbed (wordOf k.good)).setPen p (s.pen p).calibrationEnded.lost := by
  have quiet : State.aborted cause ((s.answer k.slot codeDisturbed (wordOf k.good)).setPen p (s.pen p).calibrationEnded) p =
      (s.answer k.slot codeDisturbed (wordOf k.good)).setPen p (s.pen p).calibrationEnded := by
    rw [State.aborted_eq, State.pen_setPen_self]
    exact if_pos rfl
  rw [State.penLoss_of_armed _ _ _ (by rw [State.pen_setPen_self]; rfl), State.crossLost, quiet, State.pen_setPen_self]
  by_cases tracked : (s.pen p).opts.mode = .track ∧ (s.pen p).track.fix = .tracking
  · have head : ((s.answer k.slot codeDisturbed (wordOf k.good)).setPen p (s.pen p).calibrationEnded).penHead p = s.penHead p := by
      rw [State.penHead, State.pen_setPen_self]
      rfl
    rw [if_pos (by exact tracked), if_pos tracked, State.stage_setPen, State.setPen_setPen, head]
    rfl
  · rw [if_neg (by exact tracked), if_neg tracked, State.setPen_setPen]

end

theorem flatMap_disturbed (s : State) (h : Head) :
    allPens.flatMap (fun p => if s.penHead p = h then (s.pen p).disturbed else []) =
      allPens.flatMap (fun p =>
        if s.penHead p = h then
          match (s.pen p).state, (s.pen p).calib with
          | .calibrating, some k => [{ slot := k.slot, code := 12, value := BitVec.ofNat 16 k.good }]
          | _, _ => []
        else []) := rfl

/-- Settles O16. -/
theorem linkLost : Obligations.LinkLost := by
  refine ⟨fun h s synced => ?_, fun cause p s => ?_⟩
  · obtain ⟨e, eq, all⟩ := State.forPensOn_penLoss .linkLoss s h
    have lost := all ((s.setHead h (s.head h).lostLink).note .fault) (fun _ => rfl)
      (s.frame_lostLink h)
    have heads := s.loseLink_heads h
    rw [if_pos synced] at heads
    obtain ⟨ctx, menus, port, pending⟩ := s.loseLink_frame h
    have whole := (s.loseLink_of_synced h synced).trans lost
    have regs := State.lossOver_lost (t := (s.setHead h (s.head h).lostLink).note .fault) eq rfl
    have engine := State.lossOver_engine (t := (s.setHead h (s.head h).lostLink).note .fault) eq
    rw [← whole] at regs engine
    have pens := State.lossOver_pen (t := (s.setHead h (s.head h).lostLink).note .fault) eq fun _ => rfl
    rw [← whole] at pens
    have head : (s.loseLink h).head h = (s.head h).lostLink := by
      rw [State.head, heads]
      exact PerHead.get_set_self _ _ _
    refine ⟨s.loseLink h, rfl, ?_, fun k other => ?_, ctx, menus, port, ?_, pending, ?_, ?_, fun p => ?_⟩
    · rw [head]
      rfl
    · rw [State.head, heads]
      exact (PerHead.get_set _ _ _ _).trans (if_neg other)
    · rw [regs]
      rfl
    · rw [regs]
    · rw [engine]
      exact congrArg (fun l => { s.engine with results := s.engine.results ++ l }) (flatMap_disturbed s h)
    · obtain ⟨off, on⟩ := pens p
      obtain ⟨disarmed, armed⟩ := s.penLoss_pen .linkLoss p
      refine ⟨off, on, fun is state => ?_, fun is state => ?_⟩
      · rw [(on is).1, disarmed state]
      · rw [(on is).1, armed state]
        exact ⟨state, rfl, rfl, rfl, rfl, rfl, rfl, rfl, fun track => (s.pen p).lost_track track⟩
  · refine ⟨s.penLoss_of_disarmed cause p, fun armed pick => ?_, fun armed track empty => ⟨fun tracking => ?_, fun other => ?_⟩,
      fun k state calib => ⟨fun pick => ?_, fun track tracking => ?_, fun track other => ?_⟩⟩
    · have no_track : ¬ (s.pen p).opts.mode = .track := fun track => by
        rw [pick] at track
        cases track
      have lost : (s.pen p).lost =
          { s.pen p with deadMark := none, run := none, lockout := none, window := .opened, track := (s.pen p).track } := by
        rw [PenChannel.lost, if_neg no_track]
      rw [s.penLoss_of_armed cause p armed, State.crossLost, if_neg fun both => no_track both.1, lost,
        State.setPen_of_pens (s.aborted_pens cause p), s.aborted_eq cause p]
      rfl
    · rw [s.penLoss_of_armed cause p armed, State.crossLost, if_pos ⟨track, tracking⟩, s.aborted_eq cause p, if_pos empty,
        (s.pen p).lost_of_tracking track tracking, State.setPen_of_pens (s.stage_pens p _)]
      rfl
    · rw [s.penLoss_of_armed cause p armed, State.crossLost, if_neg fun both => other both.2, s.aborted_eq cause p, if_pos empty,
        (s.pen p).lost_of_not_tracking track other]
      rfl
    · have no_track : ¬ (s.pen p).opts.mode = .track := fun track => by
        rw [pick] at track
        cases track
      rw [s.penLoss_of_calibrating cause p state calib, s.penLoss_of_ended cause p k, if_neg fun both => no_track both.1,
        PenChannel.lost, if_neg (by exact no_track)]
      rfl
    · rw [s.penLoss_of_calibrating cause p state calib, s.penLoss_of_ended cause p k, if_pos ⟨track, tracking⟩,
        State.setPen_of_pens (State.stage_pens (s.answer k.slot codeDisturbed (wordOf k.good)) p _), (s.pen p).calibrationEnded.lost_of_tracking track tracking]
      rfl
    · rw [s.penLoss_of_calibrating cause p state calib, s.penLoss_of_ended cause p k, if_neg fun both => other both.2,
        (s.pen p).calibrationEnded.lost_of_not_tracking track other]
      rfl

/-! ## The reference periods (R1, R11) -/

/-- The silence timer's period (R1, R3). -/
def HeadRx.silentPeriod (x : HeadRx) : HeadRx :=
  if x.silence < 999 then { x with silence := x.silence + 1 }
  else if x.silence = 999 then
    { x with
      silence := 1000, aligned := true, item := []
      linkErrors := if x.item = [] then x.linkErrors else satInc x.linkErrors }
  else x

/-- A receiver's period, where its link timer stays below the limit. -/
def HeadRx.aged (x : HeadRx) : HeadRx :=
  match x.state with
  | .off => x
  | .seeking => x.silentPeriod
  | .synced => { x.silentPeriod with linkTimer := x.linkTimer + 1 }

/-- The period that brings a link timer to its limit. -/
def HeadRx.due (x : HeadRx) : Prop := x.state = .synced ∧ 250000 ≤ x.linkTimer + 1

theorem HeadRx.silentPeriod_eq (x : HeadRx) (live : x.state ≠ .off) :
    x.silentPeriod =
      if x.silence + 1 = Config.silenceLimit then x.silent
      else if x.silence < Config.silenceLimit then { x with silence := x.silence + 1 }
      else x := by
  have silent : x.silent =
      { x with
        silence := 1000, aligned := true, item := []
        linkErrors := if x.item = [] then x.linkErrors else satInc x.linkErrors } := if_neg live
  unfold HeadRx.silentPeriod Config.silenceLimit
  rcases Nat.lt_trichotomy x.silence 999 with below | reached | above
  · rw [if_pos below, if_neg (show ¬ x.silence + 1 = 1000 by omega), if_pos (show x.silence < 1000 by omega)]
  · rw [if_neg (show ¬ x.silence < 999 by omega), if_pos reached, if_pos (show x.silence + 1 = 1000 by omega), silent]
  · rw [if_neg (show ¬ x.silence < 999 by omega), if_neg (show ¬ x.silence = 999 by omega),
      if_neg (show ¬ x.silence + 1 = 1000 by omega), if_neg (show ¬ x.silence < 1000 by omega)]

theorem HeadRx.silentPeriod_same (x : HeadRx) :
    x.silentPeriod.state = x.state ∧ x.silentPeriod.linkTimer = x.linkTimer := by
  unfold HeadRx.silentPeriod
  refine ⟨?_, ?_⟩ <;> (repeat' split) <;> rfl

section
variable (s : State) (h : Head)

theorem State.tickHead_of_due (due : (s.head h).due) :
    s.tickHead h = (s.setHead h (s.head h).silentPeriod).loseLink h := by
  obtain ⟨synced, reached⟩ := due
  obtain ⟨state, timer⟩ := (s.head h).silentPeriod_same
  have live : (s.head h).state ≠ .off := by
    rw [synced]
    exact HeadState.noConfusion
  have limit : Config.linkTimeout = 250000 := rfl
  unfold State.tickHead
  dsimp only
  rw [← HeadRx.silentPeriod_eq _ live, state, timer, if_neg live, if_pos synced, if_neg (by omega)]

theorem State.tickHead_of_not_due (early : ¬ (s.head h).due) : s.tickHead h = s.setHead h (s.head h).aged := by
  obtain ⟨same, timer⟩ := (s.head h).silentPeriod_same
  have limit : Config.linkTimeout = 250000 := rfl
  unfold State.tickHead HeadRx.aged
  dsimp only
  by_cases off : (s.head h).state = .off
  · simp only [off, if_true, State.setHead_head]
  · rw [← HeadRx.silentPeriod_eq _ off, same, timer, if_neg off]
    cases state : (s.head h).state with
    | off => exact absurd state off
    | seeking => rw [if_neg HeadState.noConfusion]
    | synced =>
      have below : (s.head h).linkTimer + 1 < Config.linkTimeout := by
        have short : ¬ 250000 ≤ (s.head h).linkTimer + 1 := fun reached => early ⟨state, reached⟩
        omega
      rw [if_pos rfl, if_pos below]

theorem State.head_setHead_other {k : Head} (other : k ≠ h) (x : HeadRx) : (s.setHead h x).head k = s.head k :=
  (s.head_setHead h x k).trans (if_neg other)

theorem State.head_loseLink_other {k : Head} (other : k ≠ h) : (s.loseLink h).head k = s.head k := by
  rw [State.head, State.loseLink_heads]
  split
  case isTrue => exact (PerHead.get_set _ _ _ _).trans (if_neg other)
  case isFalse => rfl

end

/-- Settles O2. -/
theorem emptyQueueCountsPeriods : Obligations.EmptyQueueCountsPeriods := by
  intro s empty
  have ticks : step s = .next ((s.tickHead .A).tickHead .B).grant := by
    simp only [step, empty]
    rfl
  have a_ne_b : (Head.A : Head) ≠ .B := Head.noConfusion
  have b_ne_a : (Head.B : Head) ≠ .A := Head.noConfusion
  have head_b : ∀ x, (s.setHead .A x).head .B = s.head .B := fun _ => rfl
  have lost_b : ∀ x, ((s.setHead .A x).loseLink .A).head .B = s.head .B := fun x =>
    (State.head_loseLink_other _ _ b_ne_a).trans (head_b x)
  refine ⟨fun early_a early_b => ?_, fun h k other due early => ?_, fun due_a due_b => ?_⟩
  · rw [ticks, s.tickHead_of_not_due .A early_a, State.tickHead_of_not_due _ .B (by exact early_b), head_b]
    rfl
  · rw [ticks]
    cases h with
    | A =>
      cases k with
      | A => exact absurd rfl other
      | B =>
        rw [s.tickHead_of_due .A due, State.tickHead_of_not_due _ .B ((lost_b _).symm ▸ early), lost_b,
          ← State.loseLink_setHead _ .A b_ne_a]
        rfl
    | B =>
      cases k with
      | A =>
        rw [s.tickHead_of_not_due .A early, State.tickHead_of_due _ .B (by exact due), head_b]
        rfl
      | B => exact absurd rfl other
  · refine ⟨((s.setHead .A s.heads.a.silentPeriod).setHead .B s.heads.b.silentPeriod).loseLink .A, rfl, ?_, ?_⟩
    · obtain ⟨-, -, port, -⟩ := State.loseLink_frame ((s.setHead .A s.heads.a.silentPeriod).setHead .B s.heads.b.silentPeriod) .A
      exact port
    · rw [ticks, s.tickHead_of_due .A due_a, State.tickHead_of_due _ .B ((lost_b _).symm ▸ due_b), lost_b,
        ← State.loseLink_setHead _ .A b_ne_a]
      rfl

/-! ## A head enabled or disabled by a write to CONTROL (R5, R12, R34, R68) -/

/-- The answer to a hold or release that waits as its head is disabled (R12). -/
def HeadRx.waitingAnswers (x : HeadRx) : List Result :=
  match x.holdPending, x.waitingSlot with
  | true, some slot => [{ slot := slot, code := if x.hold then 0 else 15, value := 0 }]
  | _, _ => []

/-- The answer to a switch that is pending as its head is disabled (R68). -/
def CtxStore.abortAnswers (c : CtxStore) : List Result :=
  match c.switchPending with
  | some slot => [{ slot := slot, code := 15, value := 0 }]
  | none => []

/-- A disable at the receiver alone: its pens and its switch have not yet been reached. -/
def State.receiverDisabled (s : State) (h : Head) : State :=
  { s with
    heads := s.heads.set h (s.head h).disable
    engine := { s.engine with results := s.engine.results ++ (s.head h).waitingAnswers } }

section
variable (s : State) (h : Head)

theorem State.disableHead_of_live (live : (s.head h).state ≠ .off) :
    s.disableHead h = ((s.receiverDisabled h).forPensOn h (State.penLoss .disable)).abortSwitch h := by
  unfold State.disableHead State.receiverDisabled HeadRx.waitingAnswers
  dsimp only
  rw [if_neg live]
  cases (s.head h).holdPending with
  | false => simp only [List.append_nil]; rfl
  | true =>
    cases (s.head h).waitingSlot with
    | none => simp only [List.append_nil]; rfl
    | some slot => cases (s.head h).hold <;> rfl

theorem State.abortSwitch_engine :
    (s.abortSwitch h).engine = { s.engine with results := s.engine.results ++ (s.store h).abortAnswers } := by
  unfold State.abortSwitch CtxStore.abortAnswers
  cases (s.store h).switchPending with
  | none => simp only [List.append_nil]
  | some slot => rfl

/-- A disable, with the loss at each pen as it is at a state that shows the same pens. -/
theorem State.disableHead_acts {t : State} (live : (t.head h).state ≠ .off) (seen : ∀ p, t.penView p = s.penView p)
    (frame : (t.head h).frame = (s.head h).frame) :
    ∃ e : Pen → PenEffect, (∀ p, s.penHead p = h → State.penLoss .disable s p = s.affect p (e p)) ∧
      t.disableHead h = ((t.receiverDisabled h).affectOver (s.penOn h) e allPens).abortSwitch h := by
  obtain ⟨e, eq, all⟩ := State.forPensOn_penLoss .disable s h
  have kept : ((t.receiverDisabled h).head h).frame = (s.head h).frame :=
    (congrArg HeadRx.frame (PerHead.get_set_self _ _ _)).trans frame
  exact ⟨e, eq, (t.disableHead_of_live h live).trans (congrArg (State.abortSwitch · h) (all _ seen kept))⟩

theorem State.disableHead_enable (k : Head) : (s.disableHead h).regs.enable k = s.regs.enable k := by
  by_cases off : (s.head h).state = .off
  · exact congrArg (fun t : State => t.regs.enable k) (if_pos off)
  · obtain ⟨e, -, eq⟩ := s.disableHead_acts h (t := s) off (fun _ => rfl) rfl
    obtain ⟨-, -, -, -, -, regs, -⟩ := ((s.receiverDisabled h).affectOver (s.penOn h) e allPens).abortSwitch_frame h
    rw [eq, regs, State.affectOver_regs]
    cases k <;> rfl

theorem State.writeEnable_enable_other {k : Head} (other : k ≠ h) (v : Bool) :
    (s.writeEnable h v).regs.enable k = s.regs.enable k := by
  have set : (s.regs.setEnable h v).enable k = s.regs.enable k := by
    match h, k, other with
    | .A, .B, _ => rfl
    | .B, .A, _ => rfl
    | .A, .A, other => exact absurd rfl other
    | .B, .B, other => exact absurd rfl other
  unfold State.writeEnable
  dsimp only
  split
  case isTrue => rfl
  case isFalse =>
    cases v with
    | false => exact (State.disableHead_enable _ h k).trans set
    | true =>
      rw [if_pos rfl]
      split
      case isTrue =>
        obtain ⟨-, -, -, -, -, -, regs, -⟩ := (s.setRegs (s.regs.setEnable h true)).enableHead_frame h
        rw [regs]
        exact set
      case isFalse => exact set

end

section
variable {s : State} {w : Word} {h k : Head}

/-- A write to CONTROL that changes at most the enable of one head. -/
theorem State.writeControl_of_enable (others : h ≠ k) (going : s.regs.resetting = false) (run : w.getLsbD 0 = s.regs.run)
    (hard : w.getLsbD 3 = false) (kept : w.getLsbD k.enableBit = s.regs.enable k) :
    s.writeControl w = ((s.noted w).writeEnable h (w.getLsbD h.enableBit)).grant := by
  rw [State.writeControl_of_same_run going hard run]
  cases h with
  | A =>
    cases k with
    | A => exact absurd rfl others
    | B =>
      have same := kept.trans (((s.noted w).writeEnable_enable_other .A others.symm (w.getLsbD 1)).trans (s.noted_enable .B)).symm
      exact congrArg State.grant (State.writeEnable_same same)
  | B =>
    cases k with
    | A => exact congrArg (fun t : State => (t.writeEnable .B (w.getLsbD 2)).grant) (State.writeEnable_noted (h := .A) kept)
    | B => exact absurd rfl others

/-- The enables as a write to CONTROL gives them. -/
def State.enabledAs (s : State) (w : Word) : State :=
  { s with regs := { s.regs with enableA := w.getLsbD 1, enableB := w.getLsbD 2, enables := notesOf w } }

theorem State.noted_started : (s.noted w).regs.started = s.regs.started := rfl

/-- The enables as written, where the write changes only that of one head. -/
theorem State.noted_setEnable (others : h ≠ k) (kept : w.getLsbD k.enableBit = s.regs.enable k) :
    (s.noted w).setRegs ((s.noted w).regs.setEnable h (w.getLsbD h.enableBit)) = s.enabledAs w := by
  cases h with
  | A =>
    cases k with
    | A => exact absurd rfl others
    | B => exact congrArg (fun b => { s with regs := { s.regs with enableA := w.getLsbD 1, enableB := b, enables := notesOf w } }) kept.symm
  | B =>
    cases k with
    | A => exact congrArg (fun b => { s with regs := { s.regs with enableA := b, enableB := w.getLsbD 2, enables := notesOf w } }) kept.symm
    | B => exact absurd rfl others

theorem State.writeEnable_rises (was : s.regs.enable h = false) :
    s.writeEnable h true =
      if s.regs.started then (s.setRegs (s.regs.setEnable h true)).enableHead h else s.setRegs (s.regs.setEnable h true) := by
  have started : (s.regs.setEnable h true).started = s.regs.started := by cases h <;> rfl
  unfold State.writeEnable
  rw [if_neg (by rw [was]; exact Bool.noConfusion)]
  dsimp only
  rw [if_pos rfl, State.setRegs_regs, started]

theorem State.writeEnable_falls (live : (s.head h).state ≠ .off) (was : s.regs.enable h = true) :
    s.writeEnable h false = (s.setRegs (s.regs.setEnable h false)).disableHead h := by
  unfold State.writeEnable
  rw [if_neg (by rw [was]; exact Bool.noConfusion)]
  exact if_neg Bool.noConfusion

end

theorem flatMap_disturbed_disable (s : State) (h : Head) (before after : List Result) :
    s.engine.results ++ before ++ allPens.flatMap (fun p => if s.penHead p = h then (s.pen p).disturbed else []) ++ after =
      s.engine.results ++ before ++
      allPens.flatMap (fun p =>
        if s.penHead p = h then
          match (s.pen p).state, (s.pen p).calib with
          | .calibrating, some k => [{ slot := k.slot, code := 12, value := BitVec.ofNat 16 k.good }]
          | _, _ => []
        else []) ++ after := rfl

/-- Settles O8. -/
theorem headEnabledOrDisabled : Obligations.HeadEnabledOrDisabled := by
  refine ⟨fun h k w s others going waiting was off run hard v kept running => ?_, fun h k w s others going run hard kept =>
    ⟨fun was v waits => ?_, fun was v off => ?_⟩, fun h k w s others going was live run hard v kept => ?_⟩
  · refine congrArg Host.Outcome.next ((State.writeControl_of_enable others going run hard kept).trans (congrArg State.grant ?_))
    have written := State.noted_setEnable (s := s) others kept
    have started : s.regs.started = s.regs.run := by
      rw [Regs.started, running, waiting]
      cases s.regs.run <;> rfl
    rw [v] at written ⊢
    rw [State.writeEnable_rises ((s.noted_enable h).trans was), written, s.noted_started, started]
    cases s.regs.run with
    | false => rfl
    | true => exact (if_pos rfl).trans (State.enableHead_of_off off)
  · refine congrArg Host.Outcome.next ((State.writeControl_of_enable others going run hard kept).trans (congrArg State.grant ?_))
    have written := State.noted_setEnable (s := s) others kept
    have stopping : s.regs.started = false := by
      rw [Regs.started]
      rcases waits with ⟨-, fell⟩ | waits
      · rw [fell]
        rfl
      · rw [waits]
        exact Bool.and_false _
    rw [v] at written ⊢
    rw [State.writeEnable_rises ((s.noted_enable h).trans was), written, s.noted_started, stopping]
    rfl
  · refine congrArg Host.Outcome.next ((State.writeControl_of_enable others going run hard kept).trans (congrArg State.grant ?_))
    have written := State.noted_setEnable (s := s) others kept
    rw [v] at written ⊢
    exact (State.writeEnable_of_rest (s := s.noted w) false off Bool.noConfusion).trans written
  · have written := State.noted_setEnable (s := s) others kept
    rw [v] at written
    have falls : s.writeControl w = ((s.enabledAs w).disableHead h).grant := by
      rw [State.writeControl_of_enable others going run hard kept, v,
        State.writeEnable_falls (s := s.noted w) live ((s.noted_enable h).trans was), written]
    obtain ⟨e, eq, disabled⟩ := s.disableHead_acts h (t := s.enabledAs w) live (fun _ => rfl) rfl
    have heads := (s.enabledAs w).disableHead_heads h
    rw [if_neg (by exact live)] at heads
    have ctx := (s.enabledAs w).disableHead_ctx h
    rw [if_neg (by exact live)] at ctx
    obtain ⟨menus, port, pending⟩ := (s.enabledAs w).disableHead_frame h
    have regs := State.lossOver_lost (t := (s.enabledAs w).receiverDisabled h) eq rfl
    have engine := State.lossOver_engine (t := (s.enabledAs w).receiverDisabled h) eq
    have pens := State.lossOver_pen (t := (s.enabledAs w).receiverDisabled h) eq fun _ => rfl
    have over_ctx := (((s.enabledAs w).receiverDisabled h).affectOver_same (s.penOn h) e allPens).2.1
    obtain ⟨-, -, abort_pens, abort_reports, -, abort_regs, -⟩ :=
      (((s.enabledAs w).receiverDisabled h).affectOver (s.penOn h) e allPens).abortSwitch_frame h
    have abort_engine := (((s.enabledAs w).receiverDisabled h).affectOver (s.penOn h) e allPens).abortSwitch_engine h
    rw [← disabled] at abort_pens abort_reports abort_regs abort_engine
    rw [State.store, over_ctx, engine] at abort_engine
    rw [regs] at abort_regs
    have pen_eq : ∀ p, ((s.enabledAs w).disableHead h).pen p =
        (((s.enabledAs w).receiverDisabled h).affectOver (s.penOn h) e allPens).pen p := fun p => congrArg (·.get p) abort_pens
    have report_eq : ∀ p, ((s.enabledAs w).disableHead h).report p =
        (((s.enabledAs w).receiverDisabled h).affectOver (s.penOn h) e allPens).report p := fun p =>
      congrArg (·.get p) abort_reports
    refine ⟨(s.enabledAs w).disableHead h, congrArg Host.Outcome.next falls, ?_, ?_, ?_, ?_, menus, port, ?_, ?_, ?_, pending, ?_, ?_,
      fun p => ?_⟩
    · rw [State.head, heads]
      exact PerHead.get_set_self _ _ _
    · rw [State.head, heads]
      exact (PerHead.get_set _ _ _ _).trans (if_neg others.symm)
    · rw [State.store, ctx]
      exact (PerHead.get_set _ _ _ _).trans (if_neg others.symm)
    · rw [State.store, ctx]
      exact PerHead.get_set_self _ _ _
    · rw [State.disableHead_enable]
      cases h <;> exact v
    · rw [State.disableHead_enable]
      cases k <;> exact kept
    · rw [abort_regs]
      rfl
    · rw [abort_regs]
    · rw [abort_engine]
      exact congrArg (fun l => { s.engine with results := l }) (flatMap_disturbed_disable s h _ _)
    · obtain ⟨off, on⟩ := pens p
      obtain ⟨disarmed, armed⟩ := s.penLoss_pen .disable p
      rw [pen_eq, report_eq]
      refine ⟨off, on, fun is state => ?_, fun is state => ?_⟩
      · rw [(on is).1, disarmed state]
      · rw [(on is).1, armed state]
        exact ⟨state, rfl, rfl, rfl, rfl, rfl, rfl, rfl⟩

end Sys2Proof.Machine
end

section
/-! PROOF. Frame starts and switches of the context at all the pens of a head (R6 to R8, R32, R33, R64 to R66). -/

namespace Sys2Proof.Machine

open Sys2Proof

/-! ## A switch of the context (R64 to R66) -/

/-- The pen once a calibration that was running has ended DISTURBED (R149). -/
def PenChannel.undisturbed (c : PenChannel) : PenChannel :=
  match c.state, c.calib with
  | .calibrating, some _ => c.calibrationEnded
  | _, _ => c

/-- What a switch of the context makes of a pen (R66). -/
def PenChannel.switched (c : PenChannel) : PenChannel :=
  if c.undisturbed.state = .armed then
    { c.undisturbed with
      run := none, lockout := none
      track := if c.undisturbed.opts.mode = .track then c.undisturbed.track.dropSums else c.undisturbed.track }
  else c.undisturbed

/-- A calibration is running on the pen. -/
def PenChannel.measures (c : PenChannel) : Prop := ∃ k, c.state = .calibrating ∧ c.calib = some k

section
variable (c : PenChannel)

theorem PenChannel.not_measures_of_state (other : c.state ≠ .calibrating) : ¬ c.measures := fun ⟨_, state, _⟩ => other state

theorem PenChannel.undisturbed_of_calibrating {k : Calibration} (state : c.state = .calibrating) (calib : c.calib = some k) :
    c.undisturbed = c.calibrationEnded := by
  simp only [PenChannel.undisturbed, state, calib]

theorem PenChannel.disturbed_of_calibrating {k : Calibration} (state : c.state = .calibrating) (calib : c.calib = some k) :
    c.disturbed = [{ slot := k.slot, code := codeDisturbed, value := wordOf k.good }] := by
  simp only [PenChannel.disturbed, state, calib]

theorem PenChannel.undisturbed_of_other (quiet : ¬ c.measures) : c.undisturbed = c := by
  unfold PenChannel.undisturbed
  split
  case h_1 k state calib => exact absurd ⟨k, state, calib⟩ quiet
  case h_2 => rfl

theorem PenChannel.disturbed_of_other (quiet : ¬ c.measures) : c.disturbed = [] := by
  unfold PenChannel.disturbed
  split
  case h_1 k state calib => exact absurd ⟨k, state, calib⟩ quiet
  case h_2 => rfl

theorem PenChannel.undisturbed_head : c.undisturbed.opts = c.opts := by
  unfold PenChannel.undisturbed
  split <;> rfl

theorem PenChannel.switched_head : c.switched.opts = c.opts := by
  unfold PenChannel.switched
  split <;> exact c.undisturbed_head

end

/-- A switch's effect at a pen. -/
def PenView.switched (v : PenView) : PenEffect :=
  { v.still with pen := v.pen.switched, answers := v.pen.disturbed }

section
variable (s : State) (p : Pen)

theorem State.disturb_of_other (quiet : ¬ (s.pen p).measures) : s.disturb p = s := by
  unfold State.disturb
  split
  case h_1 k state calib => exact absurd ⟨k, state, calib⟩ quiet
  case h_2 => rfl

theorem State.disturb_eq :
    s.disturb p =
      { s with
        pens := s.pens.set p (s.pen p).undisturbed
        engine := { s.engine with results := s.engine.results ++ (s.pen p).disturbed } } := by
  by_cases runs : (s.pen p).measures
  · obtain ⟨k, state, calib⟩ := runs
    rw [s.disturb_of_calibrating p state calib, (s.pen p).undisturbed_of_calibrating state calib,
      (s.pen p).disturbed_of_calibrating state calib]
    rfl
  · rw [s.disturb_of_other p runs, (s.pen p).undisturbed_of_other runs, (s.pen p).disturbed_of_other runs, List.append_nil,
      State.pen, PerPen.set_get]

theorem State.switchPen_eq :
    s.switchPen p =
      { s with
        pens := s.pens.set p (s.pen p).switched
        engine := { s.engine with results := s.engine.results ++ (s.pen p).disturbed } } := by
  unfold State.switchPen PenChannel.switched
  rw [State.disturb_eq]
  simp only [State.pen, PerPen.get_set_self, State.clearRun, State.setPen, PerPen.set_set]
  by_cases armed : (s.pens.get p).undisturbed.state = .armed
  · by_cases track : (s.pens.get p).undisturbed.opts.mode = .track
    · simp only [armed, track, if_true]
    · simp only [armed, track, if_true, if_false]
  · simp only [armed, if_false]

theorem State.switchPen_affect : s.switchPen p = s.affect p (s.penView p).switched := by
  rw [State.switchPen_eq, State.affect_of_still s p rfl]
  simp only [PenView.switched, PenView.still, State.penView, State.report, PerPen.set_get, Bool.or_false]

end

/-- The answers of the calibrations that a switch ends, by pen number (R66). -/
def State.disturbedOn (s : State) (h : Head) : List Result :=
  allPens.flatMap (fun p => if s.penHead p = h then (s.pen p).disturbed else [])

/-- The answer to a switch as it is carried out (R65). -/
def CtxStore.switchAnswers (c : CtxStore) : List Result :=
  match c.switchPending with
  | some slot => [{ slot := slot, code := 0, value := if c.active.other = .A then 0 else 1 }]
  | none => []

section
variable (s : State) (h : Head)

theorem State.forPensOn_switchPen :
    s.forPensOn h State.switchPen = s.affectOver (s.penOn h) (fun p => (s.penView p).switched) allPens :=
  State.forPensOn_effects (D := fun _ => True) (s := s) (fun _ _ _ d => d)
    (fun p _ t seen _ => (t.switchPen_affect p).trans (by rw [seen])) (fun _ => rfl) trivial

theorem State.forPensOn_switchPen_pen (p : Pen) :
    (s.forPensOn h State.switchPen).pen p = if s.penHead p = h then (s.pen p).switched else s.pen p := by
  have view := s.affectOver_penView (s.penOn h) (fun p => (s.penView p).switched) allPens (mem_allPens p) allPens_nodup
  rw [State.forPensOn_switchPen]
  by_cases on : s.penHead p = h
  · rw [if_pos (State.penOn_iff.2 on)] at view
    rw [if_pos on]
    exact congrArg PenView.pen view
  · rw [if_neg (on ∘ State.penOn_iff.1)] at view
    rw [if_neg on]
    exact congrArg PenView.pen view

theorem State.forPensOn_switchPen_engine :
    (s.forPensOn h State.switchPen).engine = { s.engine with results := s.engine.results ++ s.disturbedOn h } := by
  rw [State.forPensOn_switchPen, State.affectOver_engine]
  simp only [State.penOn, decide_eq_true_eq]
  rfl

theorem State.boundarySwitch_of_none (none : (s.store h).switchPending = none) : s.boundarySwitch h = s := by
  simp only [State.boundarySwitch, none]

theorem State.boundarySwitch_of_some {slot : SlotNo} (pending : (s.store h).switchPending = some slot) :
    s.boundarySwitch h =
      ((s.setStore h { s.store h with active := (s.store h).active.other, switchPending := none }).forPensOn h
        State.switchPen).answer slot 0 (slotNameCode (s.store h).active.other) := by
  simp only [State.boundarySwitch, pending]
  rfl

theorem slotNameCode_eq (n : SlotName) : slotNameCode n = if n = .A then 0 else 1 := by cases n <;> rfl

theorem State.boundarySwitch_engine :
    (s.boundarySwitch h).engine =
      { s.engine with
        results :=
          s.engine.results ++ (if (s.store h).switchPending.isSome then s.disturbedOn h else []) ++
          (s.store h).switchAnswers } := by
  cases pending : (s.store h).switchPending with
  | none => simp only [s.boundarySwitch_of_none h pending, CtxStore.switchAnswers, pending, Option.isSome_none,
      Bool.false_eq_true, if_false, List.append_nil]
  | some slot =>
    rw [s.boundarySwitch_of_some h pending]
    simp only [State.answer, State.setEngine, State.forPensOn_switchPen_engine, slotNameCode_eq, CtxStore.switchAnswers, pending,
      Option.isSome_some, if_true]
    rfl

theorem State.boundarySwitch_pen (p : Pen) :
    (s.boundarySwitch h).pen p =
      if (s.store h).switchPending.isSome ∧ s.penHead p = h then (s.pen p).switched else s.pen p := by
  cases pending : (s.store h).switchPending with
  | none => rw [s.boundarySwitch_of_none h pending, if_neg fun both => Bool.noConfusion both.1]
  | some slot =>
    have answered : ∀ (t : State) code value, (t.answer slot code value).pen p = t.pen p := fun _ _ _ => rfl
    rw [s.boundarySwitch_of_some h pending, answered, State.forPensOn_switchPen_pen]
    exact if_congr (and_iff_right rfl).symm rfl rfl

theorem State.boundarySwitch_store (k : Head) :
    (s.boundarySwitch h).store k = if k = h then (s.store h).switched else s.store k := by
  rw [State.store, State.boundarySwitch_ctx]
  exact PerHead.get_set _ _ _ _

end

theorem State.doSwitchContext_of_code {s : State} {h : Head} {ws : List Word} (slot : SlotNo) (code : headOf (arg ws 4) = some h) :
    s.doSwitchContext slot ws =
      if (s.store h).switchPending ≠ none then s.reply slot 3 0
      else if ((s.store h).slot (s.store h).active.other).state ≠ .valid then s.reply slot 4 0
      else (s.setStore h { s.store h with switchPending := some slot }).passOn := by
  simp only [State.doSwitchContext, code, ← Option.isSome_iff_ne_none]
  rfl

theorem CtxStore.switched_of_some {c : CtxStore} {slot : SlotNo} (pending : c.switchPending = some slot) :
    c.switched = { c with active := c.active.other, switchPending := none } := by
  simp only [CtxStore.switched, pending]

theorem exec_switchContext_done {s : State} {slot : SlotNo} {ws : List Word}
    (taking : s.takenInFlight (some .switchContext) slot ws) :
    exec (.switchContext .done) s = .next ((s.taken slot).doSwitchContext slot ws).grant :=
  congrArg Host.Outcome.next (State.takenEnd_done taking fun t n l => by simp)

/-- Settles O32. -/
theorem switchContextServed : Obligations.SwitchContextServed := by
  refine ⟨fun slot ws s taking => ⟨fun bad => ?_, fun h code => ?_⟩, fun h s => ⟨s.boundarySwitch_of_none h, fun slot pending => ?_⟩,
    fun p s => ⟨fun off => ?_, fun armed pick => ?_, fun armed track => ?_, fun k state calib => ?_⟩⟩
  · rw [exec_switchContext_done taking]
    simp only [State.doSwitchContext, headOf_of_one_lt bad]
    rfl
  · rw [exec_switchContext_done taking, State.doSwitchContext_of_code slot (headOf_of_toNat code)]
    rfl
  · have other : (s.store h).active.other = if (s.store h).active = .A then SlotName.B else .A := by
      cases (s.store h).active <;> rfl
    obtain ⟨heads, menus, reports, port, regs, queue⟩ := s.boundarySwitch_frame h
    have answers := s.boundarySwitch_engine h
    rw [pending] at answers
    refine ⟨?_, fun k not_h => ?_, heads, menus, reports, port, regs, queue, fun p => ?_, ?_⟩
    · rw [s.boundarySwitch_store h h, if_pos rfl, CtxStore.switched_of_some pending, other]
    · rw [s.boundarySwitch_store h k, if_neg not_h]
    · rw [s.boundarySwitch_pen h p, pending, State.switchPen_eq]
      refine if_congr (and_iff_right rfl) ?_ rfl
      exact (PerPen.get_set_self _ _ _).symm
    · rw [answers, CtxStore.switchAnswers, pending, ← other]
      rfl
  · have quiet := (s.pen p).not_measures_of_state (by rw [off]; exact PenState.noConfusion)
    have stays : (s.pen p).switched = s.pen p := by
      rw [PenChannel.switched, (s.pen p).undisturbed_of_other quiet, off, if_neg PenState.noConfusion]
    rw [s.switchPen_eq p, stays, (s.pen p).disturbed_of_other quiet, List.append_nil, State.pen, PerPen.set_get]
  · have quiet := (s.pen p).not_measures_of_state (by rw [armed]; exact PenState.noConfusion)
    rw [s.switchPen_eq p, PenChannel.switched, (s.pen p).disturbed_of_other quiet, List.append_nil,
      (s.pen p).undisturbed_of_other quiet, if_pos armed, pick, if_neg Mode.noConfusion]
  · have quiet := (s.pen p).not_measures_of_state (by rw [armed]; exact PenState.noConfusion)
    rw [s.switchPen_eq p, PenChannel.switched, (s.pen p).disturbed_of_other quiet, List.append_nil,
      (s.pen p).undisturbed_of_other quiet, if_pos armed, if_pos track]
    rfl
  · have dropped : (if (s.pen p).calibrationEnded.opts.mode = .track then (s.pen p).calibrationEnded.track.dropSums
        else (s.pen p).calibrationEnded.track) = (s.pen p).track.dropSums := ite_self _
    rw [s.switchPen_eq p, PenChannel.switched, (s.pen p).disturbed_of_calibrating state calib,
      (s.pen p).undisturbed_of_calibrating state calib, dropped]
    rfl

/-! ## The signal at a pen (R32, R33) -/

section
variable (s : State) (p : Pen) (frame : Long) (boundary held sync : Bool)

theorem State.judgePen_of_pick (armed : (s.pen p).state = .armed) (pick : (s.pen p).opts.mode = .pick) :
    s.judgePen p frame boundary = (if boundary then s else s.idleJudgement p frame).runJudgement p frame := by
  have not_calibrating : (s.pen p).state ≠ .calibrating := by
    rw [armed]
    exact PenState.noConfusion
  have not_track : ¬ ((s.pen p).state = .armed ∧ (s.pen p).opts.mode = .track) := fun both => by
    rw [pick] at both
    cases both.2
  unfold State.judgePen
  dsimp only
  rw [if_neg not_calibrating, if_neg not_track]
  cases boundary with
  | true => rw [if_neg fun both => both.2.2 rfl, if_pos rfl]
  | false => rw [if_pos ⟨armed, pick, Bool.noConfusion⟩, if_neg Bool.noConfusion]

theorem State.judgePen_of_track (armed : (s.pen p).state = .armed) (track : (s.pen p).opts.mode = .track) :
    s.judgePen p frame boundary = (s.runJudgement p frame).missJudgement p frame := by
  have not_calibrating : (s.pen p).state ≠ .calibrating := by
    rw [armed]
    exact PenState.noConfusion
  have not_pick : ¬ ((s.pen p).state = .armed ∧ (s.pen p).opts.mode = .pick ∧ ¬ boundary = true) := fun both => by
    rw [track] at both
    cases both.2.1
  unfold State.judgePen
  dsimp only
  rw [if_neg not_calibrating, if_pos ⟨armed, track⟩, if_neg not_pick]

theorem State.judgePen_of_calibrating (state : (s.pen p).state = .calibrating) :
    s.judgePen p frame boundary = (s.runJudgement p frame).calibrationJudgement p := by
  have not_armed : (s.pen p).state ≠ .armed := by
    rw [state]
    exact PenState.noConfusion
  unfold State.judgePen
  dsimp only
  rw [if_pos state, if_neg fun both => not_armed both.1, if_neg fun both => not_armed both.1]

theorem State.calibrationJudgement_heldMark : ((s.calibrationJudgement p).pen p).heldMark = (s.pen p).heldMark := by
  cases calib : (s.pen p).calib with
  | none => simp only [State.calibrationJudgement, calib]
  | some k =>
    rw [State.calibrationJudgement_eq calib]
    (repeat' split) <;> simp only [State.endCalibration_eq, State.pen_setPen_self, PenChannel.calibrationEnded]

theorem MovesPen.calibrating {s t : State} {p : Pen} (moves : MovesPen s p t) (still : (t.pen p).state = .calibrating) :
    (s.pen p).state = .calibrating := by
  obtain ⟨-, d, to_d, pens⟩ := moves
  exact to_d.calibrating (MovesPen.pen_of_set pens ▸ still)

theorem MovesPen.judgedAndClosed : MovesPen s p (s.judgedAndClosed p frame boundary sync) := by
  have judged : MovesPen s p (if ¬ (s.pen p).heldMark ∧ ¬ sync then s.judgePen p frame boundary else s) :=
    .ite (fun _ => .judgePen s p frame boundary) fun _ => .refl s p
  exact .ite (fun _ => judged.trans (.closeAtBoundary _ p frame)) fun _ => judged

/-- The judgements of a pen outside a held frame, as the signal of a frame start takes them. -/
def State.judgedAt : State := if (s.pen p).heldMark = false ∧ sync = false then s.judgePen p frame boundary else s

theorem State.judgedAndClosed_eq :
    s.judgedAndClosed p frame boundary sync =
      if boundary = true ∧ ((s.judgedAt p frame boundary sync).pen p).state = .armed ∧
          ((s.judgedAt p frame boundary sync).pen p).opts.mode = .pick then
        (s.judgedAt p frame boundary sync).decision p .boundary frame
      else s.judgedAt p frame boundary sync := by
  have judged : (if ¬ (s.pen p).heldMark = true ∧ ¬ sync = true then s.judgePen p frame boundary else s) =
      s.judgedAt p frame boundary sync :=
    if_congr (by rw [Bool.not_eq_true, Bool.not_eq_true]) rfl rfl
  unfold State.judgedAndClosed
  rw [judged]
  cases boundary with
  | false => exact (if_neg Bool.noConfusion).trans (if_neg fun all => Bool.noConfusion all.1).symm
  | true => exact (if_pos rfl).trans (if_congr (and_iff_right rfl).symm rfl rfl)

/-- A pen that still measures once it is judged had its held-frame mark left alone. -/
theorem State.judgedAndClosed_heldMark (still : ((s.judgedAndClosed p frame boundary sync).pen p).state = .calibrating) :
    ((s.judgedAndClosed p frame boundary sync).pen p).heldMark = (s.pen p).heldMark := by
  have state : (s.pen p).state = .calibrating := (MovesPen.judgedAndClosed s p frame boundary sync).calibrating still
  have judged : ((s.judgedAt p frame boundary sync).pen p).heldMark = (s.pen p).heldMark := by
    unfold State.judgedAt
    split
    case isFalse => rfl
    case isTrue =>
      rw [s.judgePen_of_calibrating p frame boundary state, State.calibrationJudgement_heldMark]
      simp only [State.runJudgement, State.pen_setPen_self]
  rw [State.judgedAndClosed_eq] at still ⊢
  split
  case isFalse => exact judged
  case isTrue all =>
    rw [if_pos all] at still
    have before := (MovesPen.decision all.2.1 .boundary frame).calibrating still
    rw [all.2.1] at before
    cases before

theorem State.markHeld_of_quiet (quiet : ¬ (held = true ∧ (s.pen p).heldMark = false ∧ (s.pen p).state = .calibrating)) :
    s.markHeld p held = s.setPen p { s.pen p with heldMark := held } := by
  unfold State.markHeld
  dsimp only
  split
  case isFalse => rfl
  case isTrue begins =>
    refine State.disturb_of_not_calibrating _ p ?_
    rw [State.pen_setPen_self]
    exact fun state => quiet ⟨begins.1, eq_false_of_ne_true begins.2, state⟩

theorem State.markHeld_of_disturbed {k : Calibration} (held_now : held = true) (was : (s.pen p).heldMark = false)
    (state : (s.pen p).state = .calibrating) (calib : (s.pen p).calib = some k) :
    s.markHeld p held =
      (s.answer k.slot codeDisturbed (wordOf k.good)).setPen p { s.pen p with heldMark := true }.calibrationEnded := by
  have marked : ((s.setPen p { s.pen p with heldMark := held }).pen p) = { s.pen p with heldMark := held } :=
    State.pen_setPen_self _ _ _
  unfold State.markHeld
  dsimp only
  rw [if_pos ⟨held_now, ne_true_of_eq_false was⟩,
    State.disturb_of_calibrating _ p (k := k) (by rw [marked]; exact state) (by rw [marked]; exact calib), marked, held_now]
  exact State.setPen_setPen (s.answer k.slot codeDisturbed (wordOf k.good)) p _ _

end

/-! ## The signal at the pens of a head -/

/-- The answer to a hold or release that waits as a frame start applies it (R9, R10). -/
def HeadRx.dueAnswers (x : HeadRx) : List Result :=
  match x.holdPending, x.waitingSlot with
  | true, some slot => [{ slot := slot, code := 0, value := 0 }]
  | _, _ => []

/-- The receiver with its pending hold or release applied (R7). -/
def HeadRx.applied (x : HeadRx) : HeadRx :=
  { x with
    hold := if x.holdPending then !x.hold else x.hold
    holdPending := false
    waitingSlot := if x.holdPending then none else x.waitingSlot }

theorem HeadRx.applyPending_eq (x : HeadRx) : x.applyPending = x.applied := by
  obtain ⟨state, aligned, silence, item, step, saturated, frame, windowCount, linkTimer, hold, holdPending, waitingSlot, history,
    overwritten, forward, reverse, linkErrors, linkLosses, overlaps⟩ := x
  cases holdPending <;> rfl

section
variable (s : State) (h : Head) (x : HeadRx) (boundary sync : Bool)

/-- A frame start once the receiver has become `x` and its pending change is applied and answered. -/
def State.received : State :=
  { s with
    heads := s.heads.set h x.applied
    engine := { s.engine with results := s.engine.results ++ x.dueAnswers } }

/-- The signal that goes to the pens. -/
def HeadRx.signal (x : HeadRx) (boundary sync : Bool) : State → Pen → State :=
  State.signalPen x.frame boundary x.applied.hold sync

/-- The frame start with its signal at the pens. -/
def State.signalSent : State := (s.received h x).forPensOn h (x.signal boundary sync)

/-- The scan event (R171). -/
def State.scanned (s : State) : State := { s with engine := { s.engine with scanPending := true } }

/-- The frame start as a whole, with the scan event. -/
def State.frameTaken : State :=
  State.scanned (if boundary then (s.signalSent h x boundary sync).boundarySwitch h else s.signalSent h x boundary sync)

theorem State.frameTaken_of_boundary :
    s.frameTaken h x true sync = ((s.signalSent h x true sync).boundarySwitch h).scanned := rfl

theorem State.frameTaken_within : s.frameTaken h x false sync = (s.signalSent h x false sync).scanned := rfl

theorem State.scanned_engine : s.scanned.engine = { s.engine with scanPending := true } := rfl

theorem State.scanned_store (k : Head) : s.scanned.store k = s.store k := rfl

theorem State.scanned_pen (p : Pen) : s.scanned.pen p = s.pen p := rfl

theorem State.scanned_report (p : Pen) : s.scanned.report p = s.report p := rfl

/-- What the scan event leaves. -/
theorem State.scanned_frame :
    s.scanned.heads = s.heads ∧ s.scanned.ctx = s.ctx ∧ s.scanned.menus = s.menus ∧ s.scanned.pens = s.pens ∧
    s.scanned.reports = s.reports ∧ s.scanned.port = s.port ∧ s.scanned.regs = s.regs ∧ s.scanned.pending = s.pending :=
  ⟨rfl, rfl, rfl, rfl, rfl, rfl, rfl, rfl⟩

theorem State.frameSignal_setHead : (s.setHead h x).frameSignal h boundary sync = s.frameTaken h x boundary sync := by
  have received : ((s.setHead h x).setHead h x.applied).answerWaiting x = s.received h x := by
    rw [State.setHead_setHead, State.received]
    unfold State.answerWaiting HeadRx.dueAnswers
    cases x.holdPending with
    | false => simp only [List.append_nil]; rfl
    | true =>
      cases x.waitingSlot with
      | none => simp only [List.append_nil]; rfl
      | some slot => rfl
  have sent : (s.setHead h x).signalled h boundary sync = s.signalSent h x boundary sync := by
    rw [State.signalled, State.head_setHead_self, x.applyPending_eq, received]
    rfl
  rw [State.frameSignal_eq, sent]
  rfl

theorem State.signalSent_acts :
    ∃ e : Pen → PenEffect,
      (∀ p, s.penHead p = h → (e p).Fits (s.pen p) ∧ x.signal boundary sync s p = s.affect p (e p)) ∧
      s.signalSent h x boundary sync = (s.received h x).affectOver (s.penOn h) e allPens := by
  obtain ⟨e, effects, all⟩ := State.forPensOn_acts (D := fun t => t.activeCtx h = s.activeCtx h) (s := s) (h := h)
    (f := x.signal boundary sync) (fun _ _ _ d => d) fun p on =>
      ActsAt.signalPen (ctx := s.activeCtx h) (fun _ _ _ d => d)
        (fun t d => (by rw [show (s.penView p).pen.opts.head = h from on]; exact d)) _ boundary _ sync
  refine ⟨e, fun p on => ?_, all _ (fun _ => rfl) rfl⟩
  obtain ⟨fits, eq⟩ := effects p on
  exact ⟨fits, eq s rfl rfl⟩

end

/-- The pens of a head that an operation disarms. -/
def State.goneBy (s : State) (h : Head) (f : State → Pen → State) (p : Pen) : Bool :=
  decide (s.penHead p = h) && decide ((s.pen p).state ≠ .disarmed) && decide (((f s p).pen p).state = .disarmed)

section
variable {s : State} {h : Head} {f : State → Pen → State} {e : Pen → PenEffect}
  (effects : ∀ p, s.penHead p = h → (e p).Fits (s.pen p) ∧ f s p = s.affect p (e p))
include effects

theorem State.goneOver_eq : goneOver (s.penOn h) e allPens = s.goneBy h f := by
  funext q
  rw [goneOver_allPens]
  by_cases on : s.penHead q = h
  · obtain ⟨fits, eq⟩ := effects q on
    have after : ((f s q).pen q) = (e q).pen := by
      rw [eq]
      exact congrArg PenView.pen (s.affect_penView_self q (e q))
    rw [State.goneBy, after, fits.gone, State.penOn, decide_eq_true on, Bool.true_and, Bool.true_and, Bool.decide_and]
  · rw [State.goneBy, State.penOn, decide_eq_false on, Bool.false_and, Bool.false_and, Bool.false_and]

/-- Each pen after the effects: off the head as before, on it as the operation leaves it. -/
theorem State.effectOver_pen {t : State} (seen : ∀ p, t.penView p = s.penView p) (p : Pen) :
    (s.penHead p ≠ h → (t.affectOver (s.penOn h) e allPens).pen p = s.pen p ∧
      (t.affectOver (s.penOn h) e allPens).report p = s.report p) ∧
    (s.penHead p = h → (t.affectOver (s.penOn h) e allPens).pen p = (f s p).pen p ∧
      (t.affectOver (s.penOn h) e allPens).report p = (f s p).report p ∧ ((f s p).pen p).opts.head = h) := by
  have view := t.affectOver_penView (s.penOn h) e allPens (mem_allPens p) allPens_nodup
  have fields : ∀ {u w : PenView}, u = w → u.pen = w.pen ∧ u.report = w.report := fun same => same ▸ ⟨rfl, rfl⟩
  constructor
  · intro off
    rw [if_neg (off ∘ State.penOn_iff.1), seen] at view
    exact fields view
  · intro on
    obtain ⟨fits, eq⟩ := effects p on
    rw [if_pos (State.penOn_iff.2 on)] at view
    obtain ⟨pen, report⟩ := fields view
    obtain ⟨pen', report'⟩ := fields (s.affect_penView_self p (e p))
    rw [eq]
    exact ⟨pen.trans pen'.symm, report.trans report'.symm, (congrArg (·.opts.head) pen').trans (fits.head.trans on)⟩

end

section
variable (s : State) (h : Head) (x : HeadRx) (boundary sync : Bool)

theorem State.signalSent_ctx : (s.signalSent h x boundary sync).ctx = s.ctx := by
  obtain ⟨e, -, eq⟩ := s.signalSent_acts h x boundary sync
  obtain ⟨-, ctx, -⟩ := (s.received h x).affectOver_same (s.penOn h) e allPens
  rw [eq]
  exact ctx

/-- What a frame start changes beside the pens, their paths and the answers. -/
theorem State.frameTaken_same :
    (s.frameTaken h x boundary sync).heads = s.heads.set h x.applied ∧
    (s.frameTaken h x boundary sync).menus = s.menus.map (MenuUnit.dropAwaits (s.goneBy h (x.signal boundary sync))) ∧
    (s.frameTaken h x boundary sync).port = s.port.map (Access.release (s.goneBy h (x.signal boundary sync))) ∧
    (s.frameTaken h x boundary sync).regs =
      { s.regs with notes := { s.regs.notes with lost := (s.frameTaken h x boundary sync).regs.notes.lost } } ∧
    (s.frameTaken h x boundary sync).pending = s.pending := by
  obtain ⟨e, effects, eq⟩ := s.signalSent_acts h x boundary sync
  obtain ⟨heads, -, pending⟩ := (s.received h x).affectOver_same (s.penOn h) e allPens
  have menus := (s.received h x).affectOver_menus (s.penOn h) e allPens
  have port := (s.received h x).affectOver_port (s.penOn h) e allPens
  have regs := (s.received h x).affectOver_regs (s.penOn h) e allPens
  rw [← eq] at heads menus port regs pending
  rw [State.goneOver_eq effects] at menus port
  obtain ⟨heads', menus', -, port', regs', pending'⟩ := (s.signalSent h x boundary sync).boundarySwitch_frame h
  cases boundary with
  | true =>
    obtain ⟨heads'', -, menus'', -, -, port'', regs'', pending''⟩ := ((s.signalSent h x true sync).boundarySwitch h).scanned_frame
    rw [State.frameTaken_of_boundary, heads'', menus'', port'', regs'', pending'', heads', menus', port', regs', pending', heads,
      menus, port, regs, pending]
    exact ⟨rfl, rfl, rfl, rfl, rfl⟩
  | false =>
    obtain ⟨heads'', -, menus'', -, -, port'', regs'', pending''⟩ := (s.signalSent h x false sync).scanned_frame
    rw [State.frameTaken_within, heads'', menus'', port'', regs'', pending'', heads, menus, port, regs, pending]
    exact ⟨rfl, rfl, rfl, rfl, rfl⟩

theorem State.frameTaken_store (k : Head) :
    (s.frameTaken h x boundary sync).store k =
      if boundary = true ∧ k = h then (s.store h).switched else s.store k := by
  have sent : (s.signalSent h x boundary sync).store = s.store := by
    funext k
    rw [State.store, State.signalSent_ctx]
    rfl
  cases boundary with
  | true =>
    have switched := (s.signalSent h x true sync).boundarySwitch_store h k
    rw [sent] at switched
    rw [State.frameTaken_of_boundary, State.scanned_store, switched]
    exact if_congr (and_iff_right rfl).symm rfl rfl
  | false =>
    rw [State.frameTaken_within, State.scanned_store, sent, if_neg fun both => Bool.noConfusion both.1]

theorem State.frameTaken_engine :
    ∃ mid, (s.frameTaken h x boundary sync).engine =
      { s.engine with
        scanPending := true
        results :=
          s.engine.results ++ x.dueAnswers ++ mid ++ (if boundary then (s.store h).switchAnswers else []) } := by
  obtain ⟨e, -, eq⟩ := s.signalSent_acts h x boundary sync
  have engine := (s.received h x).affectOver_engine (s.penOn h) e allPens
  have ctx := s.signalSent_ctx h x boundary sync
  rw [← eq] at engine
  cases boundary with
  | true =>
    have switched := (s.signalSent h x true sync).boundarySwitch_engine h
    rw [State.store, ctx, engine] at switched
    rw [State.frameTaken_of_boundary, State.scanned_engine, switched]
    simp only [State.received, if_true, List.append_assoc]
    exact ⟨_ ++ _, by rw [List.append_assoc]; rfl⟩
  | false =>
    rw [State.frameTaken_within, State.scanned_engine, engine]
    simp only [State.received, Bool.false_eq_true, if_false, List.append_nil]
    exact ⟨_, rfl⟩

/-- Each pen after a frame start: a pen off the head as before, one on it as the signal and a switch carried out leave it. -/
theorem State.frameTaken_pen (p : Pen) :
    (s.penHead p ≠ h → (s.frameTaken h x boundary sync).pen p = s.pen p ∧
      (s.frameTaken h x boundary sync).report p = s.report p) ∧
    (s.penHead p = h →
      (s.frameTaken h x boundary sync).pen p =
        (if boundary && (s.store h).switchPending.isSome then (x.signal boundary sync s p).switchPen p
         else x.signal boundary sync s p).pen p ∧
      (s.frameTaken h x boundary sync).report p =
        (if boundary && (s.store h).switchPending.isSome then (x.signal boundary sync s p).switchPen p
         else x.signal boundary sync s p).report p) := by
  obtain ⟨e, effects, eq⟩ := s.signalSent_acts h x boundary sync
  obtain ⟨off, on⟩ := State.effectOver_pen effects (t := s.received h x) (fun _ => rfl) p
  have ctx := s.signalSent_ctx h x boundary sync
  rw [← eq] at off on
  obtain ⟨-, -, reports, -⟩ := (s.signalSent h x boundary sync).boundarySwitch_frame h
  have pens := (s.signalSent h x boundary sync).boundarySwitch_pen h p
  rw [State.store, ctx] at pens
  have taken : (s.frameTaken h x boundary sync).pen p =
      (if (boundary && (s.store h).switchPending.isSome) = true ∧ (s.signalSent h x boundary sync).penHead p = h then
        ((s.signalSent h x boundary sync).pen p).switched else (s.signalSent h x boundary sync).pen p) := by
    cases boundary with
    | true =>
      rw [State.frameTaken_of_boundary, State.scanned_pen, pens, Bool.true_and]
      rfl
    | false => rw [State.frameTaken_within, State.scanned_pen, Bool.false_and, if_neg fun both => Bool.noConfusion both.1]
  have path : (s.frameTaken h x boundary sync).report p = (s.signalSent h x boundary sync).report p := by
    cases boundary with
    | true =>
      rw [State.frameTaken_of_boundary, State.scanned_report, State.report, reports]
      rfl
    | false => rw [State.frameTaken_within, State.scanned_report]
  rw [taken, path]
  constructor
  · intro away
    obtain ⟨pen, report⟩ := off away
    rw [pen, report, if_neg fun both => away (by rw [State.penHead, ← pen]; exact both.2)]
    exact ⟨rfl, rfl⟩
  · intro is
    obtain ⟨pen, report, head⟩ := on is
    have here : (s.signalSent h x boundary sync).penHead p = h := by
      rw [State.penHead, pen]
      exact head
    rw [pen, report]
    by_cases switches : (boundary && (s.store h).switchPending.isSome) = true
    · rw [if_pos ⟨switches, here⟩, if_pos switches, State.switchPen_eq]
      exact ⟨(PerPen.get_set_self _ _ _).symm, rfl⟩
    · rw [if_neg fun both => switches both.1, if_neg switches]
      exact ⟨rfl, rfl⟩

end

/-- The load's origin without the awaiting record of a pen in the set, as the statements write it. -/
def LoadOrigin.without (gone : Pen → Bool) (o : LoadOrigin) : LoadOrigin :=
  match o with
  | .pageButton (some await) => .pageButton (if gone await.pen then none else some await)
  | .backButton (some await) => .backButton (if gone await.pen then none else some await)
  | origin => origin

theorem LoadOrigin.dropAwaits_eq (gone : Pen → Bool) (o : LoadOrigin) : o.dropAwaits gone = o.without gone := by
  have each : ∀ a : Await, Option.filter (fun a : Await => !gone a.pen) (some a) = if gone a.pen then none else some a := fun a => by
    cases is : gone a.pen <;> simp only [Option.filter, is, Bool.not_true, Bool.not_false, Bool.false_eq_true, if_true, if_false]
  cases o with
  | setPage => rfl
  | pageButton w =>
    cases w with
    | none => rfl
    | some a => exact congrArg LoadOrigin.pageButton (each a)
  | backButton w =>
    cases w with
    | none => rfl
    | some a => exact congrArg LoadOrigin.backButton (each a)

theorem MenuUnit.dropAwaits_eq (gone : Pen → Bool) (m : MenuUnit) :
    m.dropAwaits gone = { m with load := m.load.map (fun l => { l with origin := l.origin.without gone }) } := by
  simp only [MenuUnit.dropAwaits, LoadOrigin.dropAwaits_eq]

theorem CtxStore.switched_eq (c : CtxStore) :
    c.switched = { c with active := if c.switchPending.isSome then c.active.other else c.active, switchPending := none } := by
  obtain ⟨slotA, slotB, active, pending⟩ := c
  cases pending <;> rfl

theorem CtxStore.switchAnswers_eq (c : CtxStore) :
    c.switchAnswers =
      match c.switchPending with
      | some slot => [{ slot := slot, code := 0, value := if c.active = .A then 1 else 0 }]
      | none => [] := by
  unfold CtxStore.switchAnswers
  cases c.switchPending with
  | none => rfl
  | some slot => cases c.active <;> rfl

section
variable {s : State} {h : Head} {w : Word}

theorem goodParity_chosen (w : Word) : goodParity w (!goodParity w false) = true := by
  have flips : goodParity w true = !goodParity w false := by
    rw [goodParity, goodParity, foldl_xor, foldl_xor]
    rw [Bool.eq_not, ne_eq, decide_eq_decide]
    simp only [if_true, Bool.false_eq_true, if_false]
    omega
  cases even : goodParity w false with
  | true => exact even
  | false => rw [Bool.not_false, flips, even, Bool.not_false]

theorem exec_frameStart (synced : (s.head h).state = .synced) (aligned : (s.head h).aligned = true)
    (fresh : (s.head h).item = []) (type : headerType w = 1) :
    exec (.frameStart h w) s =
      .next (s.frameTaken h (HeadRx.advance { s.head h with silence := 0 } (s.windowLength h))
        (!(s.head h).hold && decide ((s.head h).windowCount + 1 = s.windowLength h)) false).grant := by
  have live : (s.head h).state ≠ .off := by
    rw [synced]
    exact HeadState.noConfusion
  refine congrArg (fun t : State => Host.Outcome.next t.grant) ?_
  rw [State.strobe_of_header w _ live aligned fresh, State.headerTaken, if_pos ⟨goodParity_chosen w, type⟩,
    State.head_setHead_self, if_pos synced]
  unfold State.frameStart
  dsimp only
  rw [State.head_setHead_self, State.setHead_setHead, State.frameSignal_setHead]
  rfl

theorem exec_synchronisingFrameStart (seeking : (s.head h).state = .seeking) (aligned : (s.head h).aligned = true)
    (fresh : (s.head h).item = []) (type : headerType w = 1) :
    exec (.synchronisingFrameStart h w) s =
      .next (s.frameTaken h (HeadRx.synchronise { s.head h with silence := 0 }) true true).grant := by
  have live : (s.head h).state ≠ .off := by
    rw [seeking]
    exact HeadState.noConfusion
  have not_synced : (s.head h).state ≠ .synced := by
    rw [seeking]
    exact HeadState.noConfusion
  refine congrArg (fun t : State => Host.Outcome.next t.grant) ?_
  rw [State.strobe_of_header w _ live aligned fresh, State.headerTaken, if_pos ⟨goodParity_chosen w, type⟩,
    State.head_setHead_self, if_neg not_synced, State.syncFrameStart, State.head_setHead_self, State.setHead_setHead,
    State.frameSignal_setHead]

end

/-- What the boundary at a path adds to a signal (R157). -/
def State.bounded (s : State) (p : Pen) (boundary : Bool) : State := if boundary then s.reportBoundary p else s

section
variable (s : State) (p : Pen) (frame : Long) (boundary held sync : Bool)

theorem State.signalPen_of_disarmed (off : (s.pen p).state = .disarmed) :
    State.signalPen frame boundary held sync s p = s.bounded p boundary := by
  have channel : s.signalChannel p frame boundary held sync = s := if_pos off
  rw [State.signalPen_eq, channel]
  rfl

theorem State.signalPen_of_live (live : (s.pen p).state ≠ .disarmed) :
    State.signalPen frame boundary held sync s p = ((s.judgedAndClosed p frame boundary sync).markHeld p held).bounded p boundary := by
  have channel : s.signalChannel p frame boundary held sync = (s.judgedAndClosed p frame boundary sync).markHeld p held :=
    if_neg live
  rw [State.signalPen_eq, channel]
  rfl

end

/-- Settles O14. -/
theorem frameStartTaken : Obligations.FrameStartTaken := by
  refine ⟨fun h w s synced aligned fresh type => ?_, fun p frame boundary held sync s => ?_⟩
  · dsimp only
    generalize at_boundary : (!(s.head h).hold && decide ((s.head h).windowCount + 1 = s.windowLength h)) = boundary
    have taken := exec_frameStart synced aligned fresh type
    rw [at_boundary] at taken
    obtain ⟨heads, menus, port, regs, pending⟩ :=
      s.frameTaken_same h (HeadRx.advance { s.head h with silence := 0 } (s.windowLength h)) boundary false
    obtain ⟨mid, engine⟩ :=
      s.frameTaken_engine h (HeadRx.advance { s.head h with silence := 0 } (s.windowLength h)) boundary false
    have store := s.frameTaken_store h (HeadRx.advance { s.head h with silence := 0 } (s.windowLength h)) boundary false
    refine ⟨_, taken, ?_, ?_, ⟨mid ++ if boundary then (s.store h).switchAnswers else [], ?_⟩, fun k other => ⟨?_, ?_⟩, fun no => ?_,
      regs, fun k => ?_, port, pending,
      s.frameTaken_pen h (HeadRx.advance { s.head h with silence := 0 } (s.windowLength h)) boundary false⟩
    · rfl
    · rw [State.head, heads]
      exact PerHead.get_set_self _ _ _
    · rw [engine, List.append_assoc]
      rfl
    · rw [State.head, heads]
      exact (PerHead.get_set _ _ _ _).trans (if_neg other)
    · rw [store, if_neg fun both => other both.2]
    · have within : boundary = false := by
        rw [← at_boundary]
        rcases no with held | short
        · rw [held]
          rfl
        · rw [decide_eq_false short, Bool.and_false]
      rw [store, within, if_neg fun both => Bool.noConfusion both.1]
    · rw [State.menu, menus, PerHead.get_map, MenuUnit.dropAwaits_eq]
      rfl
  · have closed := s.judgedAndClosed_eq p frame boundary sync
    have mark := s.judgedAndClosed_heldMark p frame boundary sync
    dsimp only
    refine ⟨fun off => s.signalPen_of_disarmed p frame boundary held sync off, fun live quiet => ?_, fun k live disturbed calib => ?_,
      s.judgePen_of_pick p frame boundary, s.judgePen_of_track p frame boundary, s.judgePen_of_calibrating p frame boundary⟩
    · rw [s.signalPen_of_live p frame boundary held sync live, State.markHeld_of_quiet, closed]
      · rfl
      · rintro ⟨held_now, was, state⟩
        rw [mark state] at was
        rw [closed] at state
        exact quiet ⟨held_now, was, state⟩
    · obtain ⟨held_now, was, state⟩ := disturbed
      have state' : ((s.judgedAndClosed p frame boundary sync).pen p).state = .calibrating := closed.symm ▸ state
      have calib' : ((s.judgedAndClosed p frame boundary sync).pen p).calib = some k := closed.symm ▸ calib
      rw [s.signalPen_of_live p frame boundary held sync live,
        State.markHeld_of_disturbed _ p held held_now ((mark state').trans was) state' calib', closed]
      rfl

/-- Settles O15. -/
theorem synchronisingFrameStartTaken : Obligations.SynchronisingFrameStartTaken := by
  intro h w s seeking aligned fresh type
  obtain ⟨heads, menus, port, regs, pending⟩ :=
    s.frameTaken_same h (HeadRx.synchronise { s.head h with silence := 0 }) true true
  obtain ⟨mid, engine⟩ := s.frameTaken_engine h (HeadRx.synchronise { s.head h with silence := 0 }) true true
  have store := s.frameTaken_store h (HeadRx.synchronise { s.head h with silence := 0 }) true true
  refine ⟨_, exec_synchronisingFrameStart seeking aligned fresh type, rfl, ?_, ?_, ⟨mid, ?_⟩, fun k other => ⟨?_, ?_⟩, regs,
    fun k => ?_, port, pending, s.frameTaken_pen h (HeadRx.synchronise { s.head h with silence := 0 }) true true⟩
  · rw [State.head, heads]
    exact PerHead.get_set_self _ _ _
  · rw [store, if_pos ⟨rfl, rfl⟩, CtxStore.switched_eq]
  · rw [engine, if_pos rfl, CtxStore.switchAnswers_eq]
    rfl
  · rw [State.head, heads]
    exact (PerHead.get_set _ _ _ _).trans (if_neg other)
  · rw [store, if_neg fun both => other both.2]
  · rw [State.menu, menus, PerHead.get_map, MenuUnit.dropAwaits_eq]
    rfl

end Sys2Proof.Machine
end

section
/-! PROOF. The report path: records staged, flushes, and the accesses to its pages (R152 to R162, R186). -/

namespace Sys2Proof.Machine

open Sys2Proof

/-! ## The end of an access that may set a note -/

/-- As for `accessEnd_of_inFlight`, where the work may set notes. -/
theorem State.accessEnd_of_flight {s : State} {u : Purpose} (flying : s.inFlight u) {mine : Purpose → Bool}
    (is_mine : mine u = true) (failed : Bool) {live : Purpose → State → State}
    (keeps : ∀ t, t.port = none → (live u t).regs.mode = t.regs.mode) :
    s.accessEnd mine failed live = (live u (if failed then (s.setPort none).note .fault else s.setPort none)).grant := by
  obtain ⟨⟨addr, data, port⟩, going⟩ := flying
  have stopping : ∀ r r' : Regs, r.mode = r'.mode → r.stopping = r'.stopping := fun r r' same => by
    obtain ⟨run, running, waiting, -⟩ := RunState.mk.inj same
    rw [Regs.stopping, Regs.stopping, run, running, waiting]
  have going_on : (live u (if failed then (s.setPort none).note .fault else s.setPort none)).regs.stopping = false := by
    rw [stopping _ _ (keeps _ (by cases failed <;> rfl))]
    cases failed <;> exact going
  simp only [State.accessEnd, port, is_mine, if_true, State.endAccess]
  rw [State.finishStop_of_not_stopping going_on]

section
variable {s : State} {p : Pen}

theorem State.putReport_mode (s : State) (p : Pen) (x : ReportPath × Bool) : (s.putReport p x).regs.mode = s.regs.mode := rfl

theorem exec_reportStateRead_word (flying : s.inFlight (.pageState p)) (w : Word) :
    exec (.reportStateRead (.word w)) s = .next ((s.setPort none).putReport p ((s.report p).pageRead w)).grant := by
  refine congrArg Host.Outcome.next ((State.accessEnd_of_flight flying rfl false fun t _ => ?_).trans (congrArg State.grant ?_))
  · show (t.pageRead p w).regs.mode = t.regs.mode
    rw [t.pageRead_eq p w]
    rfl
  · exact (s.setPort none).pageRead_eq p w

theorem exec_recordWordWritten_done {k : Nat} (flying : s.inFlight (.recordWord p k)) :
    exec (.recordWordWritten .done) s = .next ((s.setPort none).putReport p ((s.report p).recordWritten k)).grant := by
  refine congrArg Host.Outcome.next ((State.accessEnd_of_flight flying rfl false fun t _ => ?_).trans (congrArg State.grant ?_))
  · show (t.recordWritten p k).regs.mode = t.regs.mode
    rw [t.recordWritten_eq p k]
    rfl
  · exact (s.setPort none).recordWritten_eq p k

theorem exec_headerWordWritten_done {k : Nat} (flying : s.inFlight (.headerWord p k)) :
    exec (.headerWordWritten .done) s = .next ((s.setPort none).headerWritten p k).grant := by
  refine congrArg Host.Outcome.next (State.accessEnd_of_flight flying rfl false fun t _ => ?_)
  show (t.headerWritten p k).regs.mode = t.regs.mode
  rw [t.headerWritten_eq p k]
  split <;> rfl

/-- The three bus errors of a path are one (R161). -/
theorem exec_reportStateRead_busError (flying : s.inFlight (.pageState p)) :
    exec (.reportStateRead .busError) s = .next (((s.setPort none).note .fault).putReport p (s.report p).pageFault).grant := by
  refine congrArg Host.Outcome.next ((State.accessEnd_of_flight flying rfl true fun t _ => ?_).trans (congrArg State.grant ?_))
  · show (t.pageFault p).regs.mode = t.regs.mode
    rw [t.pageFault_eq p]
    rfl
  · exact ((s.setPort none).note .fault).pageFault_eq p

theorem exec_recordWordWritten_busError {k : Nat} (flying : s.inFlight (.recordWord p k)) :
    exec (.recordWordWritten .busError) s = .next (((s.setPort none).note .fault).putReport p (s.report p).pageFault).grant := by
  refine congrArg Host.Outcome.next ((State.accessEnd_of_flight flying rfl true fun t _ => ?_).trans (congrArg State.grant ?_))
  · show (t.pageFault p).regs.mode = t.regs.mode
    rw [t.pageFault_eq p]
    rfl
  · exact ((s.setPort none).note .fault).pageFault_eq p

theorem exec_headerWordWritten_busError {k : Nat} (flying : s.inFlight (.headerWord p k)) :
    exec (.headerWordWritten .busError) s = .next (((s.setPort none).note .fault).putReport p (s.report p).pageFault).grant := by
  refine congrArg Host.Outcome.next ((State.accessEnd_of_flight flying rfl true fun t _ => ?_).trans (congrArg State.grant ?_))
  · show (t.pageFault p).regs.mode = t.regs.mode
    rw [t.pageFault_eq p]
    rfl
  · exact ((s.setPort none).note .fault).pageFault_eq p

end

/-! ## The path's operations by case -/

theorem satAdd_zero (c : Counter) : satAdd c 0 = c := by
  refine BitVec.eq_of_toNat_eq ?_
  have small := c.isLt
  rw [satAdd_toNat]
  omega

namespace ReportPath

variable {r : ReportPath}

theorem flushing_of_none (rests : r.mark = none) : r.flushing = false := by rw [flushing, rests]

theorem flushing_of_flush {n : Nat} (mark : r.mark = some ⟨.flush, n⟩) : r.flushing = true := by
  rw [flushing, mark]
  rfl

theorem markCount_of_some {m : CloseMark} (mark : r.mark = some m) : r.markCount = m.count := by rw [markCount, mark]

theorem endFlush_of_pending {pg : PageAddrs} (pending : r.pendingPages = some pg) : r.endFlush = (r.takePages pg, false) := by
  simp only [endFlush, pending]

theorem endFlush_of_none (none_pending : r.pendingPages = none) :
    r.endFlush =
      ({ r with
          out := .none, current := .p0, mark := none, fill := 0, queue := [], lostRecord := none, recordWord := 0,
          turnStep := 0, reread := false, lost := satAdd r.lost r.queue.length },
        decide (r.queue ≠ [])) := by
  simp only [endFlush, none_pending, discardQueue]

/-- A LOST record is written before anything else (R155). -/
theorem ownedNext_of_lost {c : Counter} (formed : r.lostRecord = some c) : r.ownedNext = (r, false) := by
  simp only [ownedNext, formed]

/-- A page with room, whose mark still counts a record, goes on (R156). -/
theorem ownedNext_of_room (room : r.fill < 8) (more : ∀ m, r.mark = some m → 0 < m.count) : r.ownedNext = (r, false) := by
  have not_full : ¬ Config.pageRecords ≤ r.fill := Nat.not_le.2 room
  cases formed : r.lostRecord with
  | some c => exact ownedNext_of_lost formed
  | none =>
    cases mark : r.mark with
    | none => simp only [ownedNext, formed, mark, if_neg not_full]
    | some m =>
      obtain ⟨kind, k⟩ := m
      have counts : k ≠ 0 := Nat.ne_of_gt (more _ mark)
      cases kind with
      | boundary => simp only [ownedNext, formed, mark, if_neg fun either : k = 0 ∨ Config.pageRecords ≤ r.fill => either.elim counts not_full]
      | flush => simp only [ownedNext, formed, mark, if_neg counts, if_neg not_full]

/-- A page with records whose mark has reached 0 is closed (R156). -/
theorem ownedNext_of_done (formed : r.lostRecord = none) (filled : r.fill ≠ 0) {m : CloseMark} (mark : r.mark = some m)
    (done : m.count = 0) : r.ownedNext = (r.startClose, false) := by
  obtain ⟨kind, k⟩ := m
  obtain rfl : k = 0 := done
  cases kind with
  | boundary => simp only [ownedNext, formed, mark, true_or, if_true]
  | flush => simp only [ownedNext, formed, mark, if_true, if_neg filled]

/-- A full page is closed, where no flush stands (R156). -/
theorem ownedNext_of_full (formed : r.lostRecord = none) (full : 8 ≤ r.fill) (rests : ∀ m, r.mark = some m → m.kind = .boundary) :
    r.ownedNext = (r.startClose, false) := by
  cases mark : r.mark with
  | none => simp only [ownedNext, formed, mark, if_pos (show Config.pageRecords ≤ r.fill from full)]
  | some m =>
    obtain ⟨kind, k⟩ := m
    obtain rfl : kind = .boundary := rests _ mark
    simp only [ownedNext, formed, mark, if_pos (show k = 0 ∨ Config.pageRecords ≤ r.fill from .inr full)]

/-- A page that fills during a flush discards the rest of the flush set (R160). -/
theorem ownedNext_of_cut (formed : r.lostRecord = none) (full : 8 ≤ r.fill) {k : Nat} (mark : r.mark = some ⟨.flush, k + 1⟩) :
    r.ownedNext =
      ({ (r.discardFront (k + 1)).1 with mark := some ⟨.flush, 0⟩ }.startClose, (r.discardFront (k + 1)).2) := by
  simp only [ownedNext, formed, mark, if_neg (Nat.succ_ne_zero k), if_pos (show Config.pageRecords ≤ r.fill from full)]

/-- An empty flush set with an empty page ends the flush (R160). -/
theorem ownedNext_of_empty (formed : r.lostRecord = none) (empty : r.fill = 0) (mark : r.mark = some ⟨.flush, 0⟩) :
    r.ownedNext = r.endFlush := by
  simp only [ownedNext, formed, mark, if_true, if_pos empty]

end ReportPath

theorem State.putReport_false (s : State) (p : Pen) (r : ReportPath) : s.putReport p (r, false) = s.setReport p r :=
  (s.setReport_eq_putReport p r).symm

/-! ## Records staged and boundaries (R154, R157, R159) -/

theorem ReportPath.stage_of_room {r : ReportPath} (out : r.out = .taking ∨ r.out = .owned ∨ r.out = .turning)
    (room : r.queue.length < 4) (record : Record) : r.stage record = ({ r with queue := r.queue ++ [record] }, false) := by
  have accepts : r.accepts = true := by
    rcases out with out | out | out <;> simp only [ReportPath.accepts, out] <;> exact decide_eq_true room
  rw [ReportPath.stage, if_pos accepts]

theorem ReportPath.stage_of_full {r : ReportPath} (out : (r.out = .stalled ∨ r.out = .fault ∨ r.out = .none) ∨ 4 ≤ r.queue.length)
    (record : Record) : r.stage record = (r.lose 1, true) := by
  have refuses : ¬ r.accepts = true := by
    have full : 4 ≤ r.queue.length → ¬ decide (r.queue.length < Config.queueSize) = true := fun long short =>
      absurd (of_decide_eq_true short) (Nat.not_lt.2 long)
    rcases out with (out | out | out) | long
    · simp only [ReportPath.accepts, out, Bool.false_eq_true, not_false_eq_true]
    · simp only [ReportPath.accepts, out, Bool.false_eq_true, not_false_eq_true]
    · simp only [ReportPath.accepts, out, Bool.false_eq_true, not_false_eq_true]
    · unfold ReportPath.accepts
      split
      case h_1 => exact full long
      case h_2 => exact full long
      case h_3 => exact full long
      case h_4 => exact Bool.false_ne_true
      case h_5 => exact Bool.false_ne_true
      case h_6 => exact Bool.false_ne_true
  rw [ReportPath.stage, if_neg refuses]

theorem satInc_eq (c : Counter) : satInc c = if c = 65535 then 65535 else c + 1 := by
  unfold satInc
  by_cases full : c = 65535
  · exact ((if_pos full).trans full).trans (if_pos full).symm
  · exact (if_neg full).trans (if_neg full).symm

theorem satAdd_one (c : Counter) : satAdd c 1 = satInc c := by
  refine BitVec.eq_of_toNat_eq ?_
  have small := c.isLt
  rw [satAdd_toNat, satInc_toNat]
  split <;> omega

/-- The path with every queued record marked for a boundary (R157). -/
def ReportPath.boundaryMarked (r : ReportPath) : ReportPath := { r with mark := some ⟨.boundary, r.queue.length⟩ }

theorem ReportPath.boundary_of_owned {r : ReportPath} (rests : r.flushing = false) (owned : r.out = .owned)
    (holds : 1 ≤ r.fill + r.queue.length) : r.boundary = r.boundaryMarked.ownedNext := by
  rw [ReportPath.boundary, rests, if_neg Bool.noConfusion]
  split
  case h_1 => exact if_pos holds
  all_goals
    rename_i out
    rw [owned] at out
    cases out

/-- Settles O48. -/
theorem recordStaged : Obligations.RecordStaged := by
  refine ⟨fun p record s => ⟨fun out room => ?_, fun out => ?_⟩, fun p s => ⟨fun quiet => ?_, fun rests owned room =>
    ⟨fun queued => ?_, fun empty filled formed => ?_, fun empty filled formed => ?_⟩, fun rests stalled => ?_⟩⟩
  · rw [s.stage_eq, ReportPath.stage_of_room out room, State.putReport_false]
    rfl
  · rw [s.stage_eq, ReportPath.stage_of_full out, ReportPath.lose, satAdd_one, satInc_eq]
    simp only [State.putReport, Bool.or_true]
  · have stays : (s.report p).boundary = (s.report p, false) := by
      by_cases flushing : (s.report p).flushing = true
      · rw [ReportPath.boundary, if_pos flushing]
      · rcases quiet with flush | out | out | out | out | ⟨out, fill, queue⟩
        · exact absurd flush flushing
        all_goals simp only [ReportPath.boundary, if_neg flushing, out]
        rw [fill, queue]
        exact if_neg (Nat.not_succ_le_zero 0)
    rw [s.reportBoundary_eq, stays, State.putReport_self]
  · have one : 1 ≤ (s.report p).fill + (s.report p).queue.length := by
      have := List.length_pos_of_ne_nil queued
      omega
    have goes : (s.report p).boundaryMarked.ownedNext = _ :=
      ReportPath.ownedNext_of_room room fun m is => by
        cases is
        exact List.length_pos_of_ne_nil queued
    rw [s.reportBoundary_eq, ReportPath.boundary_of_owned rests owned one, goes]
    exact State.putReport_false _ _ _
  · obtain ⟨c, formed⟩ := Option.ne_none_iff_exists'.1 formed
    have one : 1 ≤ (s.report p).fill + (s.report p).queue.length := by omega
    have goes : (s.report p).boundaryMarked.ownedNext = _ :=
      ReportPath.ownedNext_of_lost formed
    rw [s.reportBoundary_eq, ReportPath.boundary_of_owned rests owned one, goes]
    exact State.putReport_false _ _ _
  · have one : 1 ≤ (s.report p).fill + (s.report p).queue.length := by omega
    have goes : (s.report p).boundaryMarked.ownedNext = _ :=
      ReportPath.ownedNext_of_done formed (Nat.ne_of_gt filled) rfl (by rw [empty]; rfl)
    rw [s.reportBoundary_eq, ReportPath.boundary_of_owned rests owned one, goes]
    exact State.putReport_false _ _ _
  · rw [s.reportBoundary_eq, ReportPath.boundary, rests, if_neg Bool.noConfusion]
    simp only [stalled]
    exact State.putReport_false _ _ _

/-! ## Flushes (R160) -/

section
variable {r : ReportPath} {next : Option PageAddrs}

/-- What a flush leaves of an empty path that it ends at once. -/
def ReportPath.flushEnded (r : ReportPath) (next : Option PageAddrs) : ReportPath :=
  match next with
  | some pg => r.takePages pg
  | none =>
    { r with
      out := .none, pendingPages := none, current := .p0, mark := none, fill := 0, lostRecord := none, recordWord := 0,
      turnStep := 0, reread := false }

theorem ReportPath.endFlush_of_empty (empty : r.queue = []) :
    { r with pendingPages := next }.endFlush = (r.flushEnded next, false) := by
  cases next with
  | some pg => rfl
  | none =>
    have kept : satAdd r.lost r.queue.length = r.lost := by
      rw [empty]
      exact satAdd_zero r.lost
    rw [ReportPath.endFlush_of_none rfl]
    dsimp only
    rw [kept, decide_eq_false fun no => no empty]
    exact congrArg (fun q : List Record => ({ r.flushEnded none with queue := q }, false)) empty.symm

theorem ReportPath.flushMarked_endFlush (empty : r.queue = []) :
    (r.flushMarked next).endFlush = (r.flushEnded next, false) := by
  refine Eq.trans ?_ (ReportPath.endFlush_of_empty empty)
  cases next <;> rfl

section
variable (rests : r.flushing = false) (reading : Bool)
include rests

theorem ReportPath.flush_of_taking (out : r.out = .taking) : r.flush next reading = (r.flushMarked next, false) := by
  simp only [ReportPath.flush, rests, Bool.false_eq_true, if_false, out]

theorem ReportPath.flush_of_owned (out : r.out = .owned) : r.flush next reading = (r.flushMarked next).ownedNext := by
  simp only [ReportPath.flush, rests, Bool.false_eq_true, if_false, out]

theorem ReportPath.flush_of_turning (out : r.out = .turning) (busy : ¬ (r.turnStep = 3 ∧ r.queue = [] ∧ reading = false)) :
    r.flush next reading = (r.flushMarked next, false) := by
  have busy' : ¬ (r.turnStep = 3 ∧ r.queue.length = 0 ∧ ¬ reading = true) := fun all =>
    busy ⟨all.1, List.length_eq_zero_iff.1 all.2.1, eq_false_of_ne_true all.2.2⟩
  simp only [ReportPath.flush, rests, Bool.false_eq_true, if_false, out, if_neg busy']

theorem ReportPath.flush_of_turned (out : r.out = .turning) (last : r.turnStep = 3) (empty : r.queue = []) (idle : reading = false) :
    r.flush next reading = (r.flushEnded next, false) := by
  have now : r.turnStep = 3 ∧ r.queue.length = 0 ∧ ¬ reading = true :=
    ⟨last, List.length_eq_zero_iff.2 empty, ne_true_of_eq_false idle⟩
  rw [← ReportPath.endFlush_of_empty empty]
  simp only [ReportPath.flush, rests, Bool.false_eq_true, if_false, out, if_pos now]

theorem ReportPath.flush_of_stalled (out : r.out = .stalled) (busy : reading = true) :
    r.flush next reading = (r.flushMarked next, false) := by
  simp only [ReportPath.flush, rests, Bool.false_eq_true, if_false, out, if_pos busy]

theorem ReportPath.flush_of_stalled_idle (out : r.out = .stalled) (idle : reading = false) (empty : r.queue = []) :
    r.flush next reading = (r.flushEnded next, false) := by
  rw [← ReportPath.endFlush_of_empty empty]
  simp only [ReportPath.flush, rests, Bool.false_eq_true, if_false, out, idle]

theorem ReportPath.flush_of_ended (out : r.out = .fault ∨ r.out = .none) (empty : r.queue = []) :
    r.flush next reading = (r.flushEnded next, false) := by
  rw [← ReportPath.endFlush_of_empty empty]
  rcases out with out | out <;> simp only [ReportPath.flush, rests, Bool.false_eq_true, if_false, out]

end

theorem ReportPath.flush_of_flushing (reading : Bool) {n : Nat} (mark : r.mark = some ⟨.flush, n⟩) :
    r.flush next reading =
      ({ r with queue := r.queue.take n, pendingPages := next, lost := satAdd r.lost (r.queue.length - n) },
        decide (n < r.queue.length)) := by
  have count : r.markCount = n := ReportPath.markCount_of_some mark
  have some_lost : decide (r.queue.length - n ≠ 0) = decide (n < r.queue.length) := decide_eq_decide.2 (by omega)
  rw [ReportPath.flush, if_pos (ReportPath.flushing_of_flush mark), count, some_lost]
  rfl

end

theorem State.pageReadInFlight_iff (s : State) (p : Pen) :
    s.pageReadInFlight p = true ↔ ∃ a : Access, s.port = some a ∧ a.purpose = .pageState p ∧ a.delivery = .live := by
  cases port : s.port with
  | none =>
    simp only [State.pageReadInFlight, port]
    exact ⟨Bool.noConfusion, fun ⟨_, no, _⟩ => by cases no⟩
  | some a =>
    simp only [State.pageReadInFlight, port, Bool.and_eq_true, decide_eq_true_eq]
    exact ⟨fun both => ⟨a, rfl, both⟩, fun ⟨_, same, both⟩ => by cases same; exact both⟩

theorem State.flush_of_path {s : State} {p : Pen} {next : Option PageAddrs} {x : ReportPath}
    (path : (s.report p).flush next (s.pageReadInFlight p) = (x, false)) :
    s.flush p next = { s with reports := s.reports.set p x } := by
  rw [s.flush_eq, path]
  exact s.putReport_false p x

/-- Settles O36. -/
theorem flushTaken : Obligations.FlushTaken := by
  intro p s
  refine ⟨s.pageReadInFlight_iff p, fun next => ⟨fun rests => ⟨fun taking => ?_, fun owned room => ⟨fun first => ?_,
    fun formed empty filled => ?_, fun formed empty fresh => ?_⟩, fun turning busy => ?_, fun turning last empty idle => ?_,
    fun stalled busy => ?_, fun stalled idle empty => ?_, fun ended empty => ?_⟩, fun n mark => ?_⟩, fun pg pending => ?_,
    fun no_pending => ?_⟩
  · exact State.flush_of_path (ReportPath.flush_of_taking rests _ taking)
  · refine State.flush_of_path ((ReportPath.flush_of_owned rests _ owned).trans ?_)
    rcases first with formed | queued
    · obtain ⟨c, formed⟩ := Option.ne_none_iff_exists'.1 formed
      exact ReportPath.ownedNext_of_lost (r := (s.report p).flushMarked next) formed
    · refine ReportPath.ownedNext_of_room (r := (s.report p).flushMarked next) room fun m is => ?_
      cases is
      exact List.length_pos_of_ne_nil queued
  · refine State.flush_of_path ((ReportPath.flush_of_owned rests _ owned).trans ?_)
    exact ReportPath.ownedNext_of_done (r := (s.report p).flushMarked next) formed (Nat.ne_of_gt filled) rfl
      (List.length_eq_zero_iff.2 empty)
  · refine State.flush_of_path ((ReportPath.flush_of_owned rests _ owned).trans ?_)
    have marked : ((s.report p).flushMarked next).mark = some ⟨.flush, 0⟩ :=
      congrArg (fun n => some (CloseMark.mk .flush n)) (List.length_eq_zero_iff.2 empty)
    exact (ReportPath.ownedNext_of_empty (r := (s.report p).flushMarked next) formed fresh marked).trans
      (ReportPath.flushMarked_endFlush empty)
  · refine State.flush_of_path (ReportPath.flush_of_turning rests _ turning ?_)
    rintro ⟨last, empty, idle⟩
    rcases busy with early | queued | reads
    · exact early last
    · exact queued empty
    · exact absurd reads (ne_true_of_eq_false idle)
  · exact State.flush_of_path (ReportPath.flush_of_turned rests _ turning last empty idle)
  · exact State.flush_of_path (ReportPath.flush_of_stalled rests _ stalled busy)
  · exact State.flush_of_path (ReportPath.flush_of_stalled_idle rests _ stalled idle empty)
  · exact State.flush_of_path (ReportPath.flush_of_ended rests _ ended empty)
  · rw [s.flush_eq, ReportPath.flush_of_flushing _ mark]
    rfl
  · rw [s.endFlush_eq, ReportPath.endFlush_of_pending pending]
    exact s.putReport_false p _
  · rw [s.endFlush_eq, ReportPath.endFlush_of_none no_pending]
    rfl

end Sys2Proof.Machine
end

section
/-! PROOF. The accesses of a report path: state words read, records and headers written, bus errors (R153 to R161, R186). -/

namespace Sys2Proof.Machine

open Sys2Proof

/-! ## State words read (R155, R158 to R160) -/

namespace ReportPath

variable {r : ReportPath} {w : Word}

theorem owned_ownedNext (more : ∀ m, r.mark = some m → 0 < m.count) : r.owned.ownedNext = (r.owned, false) :=
  ownedNext_of_room (r := r.owned) (Nat.zero_lt_succ 7) more

theorem turned_mark (r : ReportPath) : r.turned.mark = r.mark := by
  unfold turned
  split <;> rfl

/-- The path with the page whose state word was read as its current one (R158). -/
theorem turned_eq (r : ReportPath) :
    r.turned = { r with current := if r.out = .turning then r.current.other else r.current } := by
  unfold turned
  split <;> rfl

theorem pageRead_of_needed (out : r.out = .taking ∨ r.out = .turning) : r.pageRead w = r.turned.neededRead w := by
  rcases out with out | out <;> simp only [pageRead, out]

theorem pageRead_of_stalled (out : r.out = .stalled) :
    r.pageRead w =
      if r.flushing then r.endFlush else if w = 0 then r.owned.ownedNext else ({ r with reread := false }, false) := by
  simp only [pageRead, out]

/-- EMPTY owns the page (R155, R159). -/
theorem pageRead_of_empty (rests : r.mark = none) (out : r.out = .taking ∨ r.out = .turning ∨ r.out = .stalled) (empty : w = 0) :
    r.pageRead w = (r.turned.owned, false) := by
  have no_flush := flushing_of_none rests
  have owns : ∀ x : ReportPath, x.mark = none → x.owned.ownedNext = (x.owned, false) := fun x none_marked =>
    owned_ownedNext fun m is => by rw [none_marked] at is; cases is
  have rests' : r.turned.mark = none := r.turned_mark.trans rests
  rcases out with out | out | out
  · rw [pageRead_of_needed (.inl out), neededRead, flushing_of_none rests', if_neg Bool.noConfusion, if_pos empty, owns _ rests']
  · rw [pageRead_of_needed (.inr out), neededRead, flushing_of_none rests', if_neg Bool.noConfusion, if_pos empty, owns _ rests']
  · have stays : r.turned = r := by
      unfold turned
      rw [out]
      exact if_neg Output.noConfusion
    rw [pageRead_of_stalled out, no_flush, if_neg Bool.noConfusion, if_pos empty, owns _ rests, stays]

theorem pageRead_of_flushed {n : Nat} (mark : r.mark = some ⟨.flush, n⟩) (out : r.out = .taking ∨ r.out = .turning) (empty : w = 0)
    (more : 0 < n) : r.pageRead w = (r.turned.owned, false) := by
  have mark' : r.turned.mark = some ⟨.flush, n⟩ := r.turned_mark.trans mark
  rw [pageRead_of_needed out, neededRead, if_pos (flushing_of_flush mark'), markCount_of_some mark',
    if_pos ⟨empty, Nat.ne_of_gt more⟩]
  exact owned_ownedNext fun m is => by
    rw [mark'] at is
    cases is
    exact more

/-- A flush that cannot go on discards its set and ends (R160). -/
theorem pageRead_of_flush_ends {n : Nat} (mark : r.mark = some ⟨.flush, n⟩) (out : r.out = .taking ∨ r.out = .turning)
    (ends : w ≠ 0 ∨ n = 0) :
    r.pageRead w = ((r.turned.discardFront n).1.endFlush.1, (r.turned.discardFront n).2 || (r.turned.discardFront n).1.endFlush.2) := by
  have mark' : r.turned.mark = some ⟨.flush, n⟩ := r.turned_mark.trans mark
  have no_more : ¬ (w = 0 ∧ n ≠ 0) := fun both => ends.elim (fun no => no both.1) both.2
  rw [pageRead_of_needed out, neededRead, if_pos (flushing_of_flush mark'), markCount_of_some mark', if_neg no_more]

theorem pageRead_of_other (rests : r.mark = none) (out : r.out = .taking ∨ r.out = .turning) (other : w ≠ 0) :
    r.pageRead w =
      ({ r.turned with
          out := .stalled, fill := 0, turnStep := 0, reread := false, queue := [], lost := satAdd r.turned.lost r.turned.queue.length },
        decide (r.turned.queue ≠ [])) := by
  have rests' := r.turned_mark.trans rests
  rw [pageRead_of_needed out, neededRead, flushing_of_none rests', if_neg Bool.noConfusion, if_neg other]
  dsimp only
  rw [rests']
  rfl

end ReportPath

section
variable {s : State} {p : Pen}

/-- What a path in each output state asks the port for. -/
theorem State.reportWaits_of_none (none_held : (s.report p).pages = none) : s.reportWaits p = none := by
  simp only [State.reportWaits, none_held]

section
variable {pg : PageAddrs} (pages : (s.report p).pages = some pg)
include pages

theorem State.reportWaits_of_taking (out : (s.report p).out = .taking) :
    s.reportWaits p = some (pageStateRead p (pg.addr (s.report p).current)) := by
  simp only [State.reportWaits, pages, out]

theorem State.reportWaits_of_turned (out : (s.report p).out = .turning) (last : (s.report p).turnStep = 3) :
    s.reportWaits p = some (pageStateRead p (pg.addr (s.report p).current.other)) := by
  simp only [State.reportWaits, pages, out, last, Nat.lt_irrefl, if_false]

theorem State.reportWaits_of_turning (out : (s.report p).out = .turning) (early : (s.report p).turnStep < 3) :
    s.reportWaits p = some (headerWrite p (s.report p) (pg.addr (s.report p).current) (s.report p).turnStep) := by
  simp only [State.reportWaits, pages, out, if_pos early]

theorem State.reportWaits_of_stalled (out : (s.report p).out = .stalled) :
    s.reportWaits p =
      if (s.report p).reread then some (pageStateRead p (pg.addr (s.report p).current)) else none := by
  simp only [State.reportWaits, pages, out]

theorem State.reportWaits_of_ended (out : (s.report p).out = .fault ∨ (s.report p).out = .none) : s.reportWaits p = none := by
  rcases out with out | out <;> simp only [State.reportWaits, pages, out]

theorem State.reportWaits_of_owned (out : (s.report p).out = .owned) {record : Record}
    (next : (s.report p).nextRecord = some record) :
    s.reportWaits p =
      some
        { purpose := .recordWord p (s.report p).recordWord
          addr := recordAddr (pg.addr (s.report p).current) (s.report p).fill (s.report p).recordWord
          data := some (recordWordAt record (s.report p).recordWord), delivery := .live } := by
  simp only [State.reportWaits, pages, out, next, Option.map_some]

end

end

theorem PageSel.other_eq (x : PageSel) : x.other = match x with | .p0 => .p1 | .p1 => .p0 := by cases x <;> rfl

theorem pageStateRead_addr (p : Pen) (pg : PageAddrs) (page : PageSel) :
    some (pageStateRead p (pg.addr page)) =
      some
        { purpose := .pageState p, data := none, delivery := .live
          addr :=
            match page with
            | .p0 => pg.page0
            | .p1 => pg.page1 } := by
  cases page <;> rfl

/-- Settles O49. -/
theorem pageStateTaken : Obligations.PageStateTaken := by
  refine ⟨fun pg => ⟨rfl, rfl⟩, rfl, rfl, fun p s => ⟨State.reportWaits_of_none, fun pg pages => ⟨fun taking => ?_,
    fun turning last => ?_, fun stalled => ?_, State.reportWaits_of_ended pages⟩⟩, fun p w s flying => ⟨fun rests out empty => ?_,
    fun n mark => ⟨fun out empty more => ?_, fun out ends => ?_, fun stalled => ?_⟩, fun rests out other => ?_,
    fun rests stalled other => ?_⟩⟩
  · exact (State.reportWaits_of_taking pages taking).trans (pageStateRead_addr p pg _)
  · refine (State.reportWaits_of_turned pages turning last).trans ((pageStateRead_addr p pg _).trans ?_)
    cases (s.report p).current <;> rfl
  · exact (State.reportWaits_of_stalled pages stalled).trans (if_congr Iff.rfl (pageStateRead_addr p pg _) rfl)
  · rw [exec_reportStateRead_word flying, ReportPath.pageRead_of_empty rests out empty, ReportPath.turned_eq]
    exact congrArg (fun t : State => Host.Outcome.next t.grant) (State.putReport_false _ _ _)
  · rw [exec_reportStateRead_word flying, ReportPath.pageRead_of_flushed mark out empty more, ReportPath.turned_eq]
    exact congrArg (fun t : State => Host.Outcome.next t.grant) (State.putReport_false _ _ _)
  · rw [exec_reportStateRead_word flying, ReportPath.pageRead_of_flush_ends mark out ends, ReportPath.turned_eq]
    have ended := ((s.setPort none).putReport p (ReportPath.discardFront
      { s.report p with
        current := if (s.report p).out = .turning then (s.report p).current.other else (s.report p).current } n)).endFlush_eq p
    rw [State.putReport_report_self, State.putReport_putReport] at ended
    have some_lost : decide (min n (s.report p).queue.length ≠ 0) = decide (0 < min n (s.report p).queue.length) :=
      decide_eq_decide.2 Nat.pos_iff_ne_zero.symm
    refine congrArg (fun t : State => Host.Outcome.next t.grant) (ended.symm.trans (congrArg (State.endFlush · p) ?_))
    rw [ReportPath.discardFront, some_lost]
    rfl
  · rw [exec_reportStateRead_word flying, ReportPath.pageRead_of_stalled stalled, if_pos (ReportPath.flushing_of_flush mark),
      State.endFlush_eq]
    rfl
  · rw [exec_reportStateRead_word flying, ReportPath.pageRead_of_other rests out other, ReportPath.turned_eq]
    rfl
  · rw [exec_reportStateRead_word flying, ReportPath.pageRead_of_stalled stalled, ReportPath.flushing_of_none rests,
      if_neg Bool.noConfusion, if_neg other]
    exact congrArg (fun t : State => Host.Outcome.next t.grant) (State.putReport_false _ _ _)

/-! ## The words of a record (R156, R186) -/

theorem loWord_eq (v : Long) : loWord v = BitVec.ofNat 16 (v.toNat % 65536) := by
  refine BitVec.eq_of_toNat_eq ?_
  rw [loWord, BitVec.toNat_setWidth, BitVec.toNat_ofNat]
  omega

theorem hiWord_eq (v : Long) : hiWord v = BitVec.ofNat 16 (v.toNat / 65536) := by
  refine BitVec.eq_of_toNat_eq ?_
  rw [hiWord, BitVec.toNat_setWidth, BitVec.toNat_ushiftRight, BitVec.toNat_ofNat, Nat.shiftRight_eq_div_pow]

theorem flagsWord_pick (c : Converted) (tie crowded : Bool) :
    flagsWord c tie crowded false =
      wordOf (bit c.clamp1 + 2 * bit c.clamp2 + 4 * bit c.grid1 + 8 * bit c.grid2 + 16 * bit tie + 32 * bit crowded) := rfl

theorem flagsWord_track (c : Converted) (final : Bool) :
    flagsWord c false false final =
      wordOf (bit c.clamp1 + 2 * bit c.clamp2 + 4 * bit c.grid1 + 8 * bit c.grid2 + 64 * bit final) := rfl

namespace ReportPath

variable {r : ReportPath}

theorem recordWritten_of_more {k : Nat} (more : k < 11) : r.recordWritten k = ({ r with recordWord := k + 1 }, false) := by
  have short : k + 1 < Config.recordWords := Nat.succ_lt_succ more
  rw [recordWritten, if_pos short]

theorem recordWritten_last : r.recordWritten 11 = r.recordDone.ownedNext := if_neg (Nat.lt_irrefl 12)

theorem recordDone_of_record (no_lost : r.lostRecord = none) {first : Record} {rest : List Record} (queue : r.queue = first :: rest) :
    r.recordDone =
      { r with
        recordWord := 0, fill := r.fill + 1, queue := rest
        mark := r.mark.map (fun m => { m with count := m.count - 1 }) } := by
  simp only [recordDone, no_lost, queue, List.drop_succ_cons, List.drop_zero]

theorem recordDone_of_lost {c : Counter} (formed : r.lostRecord = some c) :
    r.recordDone = { r with recordWord := 0, fill := r.fill + 1, lostRecord := none } := by
  simp only [recordDone, formed]

theorem nextRecord_of {record : Record}
    (is : (∃ c, r.lostRecord = some c ∧ record = .lost c) ∨ r.lostRecord = none ∧ r.queue.head? = some record) :
    r.nextRecord = some record := by
  rcases is with ⟨c, formed, same⟩ | ⟨none_formed, front⟩
  · rw [same]
    simp only [nextRecord, formed]
  · simp only [nextRecord, none_formed]
    exact front

/-- The record at the front of the queue once written, before the path goes on. -/
def written (r : ReportPath) (rest : List Record) : ReportPath :=
  { r with
    recordWord := 0, fill := r.fill + 1, queue := rest
    mark := r.mark.map (fun m => { m with count := m.count - 1 }) }

variable {rest : List Record}

theorem written_goes_on (room : r.fill < 7) (more : ∀ m, r.mark = some m → 2 ≤ m.count) :
    (r.written rest).ownedNext = (r.written rest, false) := by
  refine ownedNext_of_room (r := r.written rest) (Nat.succ_lt_succ room) fun m is => ?_
  obtain ⟨m', mark, same⟩ := Option.map_eq_some_iff.1 is
  have two := more m' mark
  rw [← same]
  show 0 < m'.count - 1
  omega

section
variable (no_lost : r.lostRecord = none)
include no_lost

theorem written_closes (last : (∃ m, r.mark = some m ∧ m.count ≤ 1) ∨ r.fill = 7 ∧ ∀ m, r.mark = some m → m.kind = .boundary) :
    (r.written rest).ownedNext = ((r.written rest).startClose, false) := by
  rcases last with ⟨m, mark, few⟩ | ⟨full, boundary⟩
  · have marked : (r.written rest).mark = some { m with count := m.count - 1 } := by
      simp only [written, mark, Option.map_some]
    refine ownedNext_of_done (r := r.written rest) no_lost (Nat.succ_ne_zero _) marked ?_
    show m.count - 1 = 0
    omega
  · refine ownedNext_of_full (r := r.written rest) no_lost (Nat.succ_le_succ (Nat.le_of_eq full.symm)) fun m is => ?_
    obtain ⟨m', mark, same⟩ := Option.map_eq_some_iff.1 is
    rw [← same]
    exact boundary m' mark

theorem written_cuts (full : r.fill = 7) {n : Nat} (mark : r.mark = some ⟨.flush, n + 2⟩) (queued : n + 1 ≤ rest.length) :
    (r.written rest).ownedNext =
      ({ r.written rest with
          out := .turning, turnStep := 0, queue := rest.drop (n + 1), lost := satAdd r.lost (n + 1), mark := some ⟨.flush, 0⟩ },
        true) := by
  have marked : (r.written rest).mark = some ⟨.flush, n + 1⟩ := by
    simp only [written, mark, Option.map_some]
    rfl
  have cut : min (n + 1) rest.length = n + 1 := Nat.min_eq_left queued
  rw [ownedNext_of_cut (r := r.written rest) no_lost (Nat.succ_le_succ (Nat.le_of_eq full.symm)) marked, discardFront]
  show ({ ({ r.written rest with queue := rest.drop (n + 1), lost := satAdd r.lost (min (n + 1) rest.length) } : ReportPath) with
    mark := some ⟨.flush, 0⟩ }.startClose, decide (min (n + 1) rest.length ≠ 0)) = _
  rw [cut]
  rfl

end

end ReportPath

theorem State.reportWaits_of_record {s : State} {p : Pen} {pg : PageAddrs} {record : Record} (pages : (s.report p).pages = some pg)
    (owned : (s.report p).out = .owned)
    (next : (∃ c, (s.report p).lostRecord = some c ∧ record = .lost c) ∨
      (s.report p).lostRecord = none ∧ (s.report p).queue.head? = some record) {words : List Word}
    (is : recordWordsOf record = words) :
    s.reportWaits p =
      some
        { purpose := .recordWord p (s.report p).recordWord
          addr := pg.addr (s.report p).current + 4 + 12 * (s.report p).fill + (s.report p).recordWord
          data := some (words[(s.report p).recordWord]?.getD 0), delivery := .live } := by
  rw [State.reportWaits_of_owned pages owned (ReportPath.nextRecord_of next), ← is]
  rfl

/-- Settles O50. -/
theorem recordWordTaken : Obligations.RecordWordTaken := by
  refine ⟨fun p pg record s pages owned next => ?_, fun p k s flying in_record => ⟨fun more => ?_,
    fun first rest last owned no_lost queue few => ⟨fun room more => ?_, fun closes => ?_, fun n full mark queued => ?_⟩,
    fun count last owned formed fresh => ⟨fun more => ?_, fun m mark done => ?_⟩⟩⟩
  · refine State.reportWaits_of_record pages owned next ?_
    cases record with
    | pick r => simp only [recordWordsOf, loWord_eq, hiWord_eq, loftLo, loftHi, flagsWord_pick]; rfl
    | menu r => simp only [recordWordsOf, loWord_eq, hiWord_eq]; rfl
    | track r => simp only [recordWordsOf, loWord_eq, hiWord_eq, loftLo, loftHi, flagsWord_track]; rfl
    | trackLost x y c frame => simp only [recordWordsOf, loWord_eq, hiWord_eq]; rfl
    | abort c entries frame => simp only [recordWordsOf, loWord_eq, hiWord_eq]; rfl
    | lost count => rfl
  · rw [exec_recordWordWritten_done flying, ReportPath.recordWritten_of_more more]
    exact congrArg (fun t : State => Host.Outcome.next t.grant) (State.putReport_false _ _ _)
  · subst last
    rw [exec_recordWordWritten_done flying, ReportPath.recordWritten_last, ReportPath.recordDone_of_record no_lost queue]
    exact congrArg (fun t : State => Host.Outcome.next t.grant)
      ((congrArg (State.putReport _ p) (ReportPath.written_goes_on room more)).trans (State.putReport_false _ _ _))
  · subst last
    rw [exec_recordWordWritten_done flying, ReportPath.recordWritten_last, ReportPath.recordDone_of_record no_lost queue]
    exact congrArg (fun t : State => Host.Outcome.next t.grant)
      ((congrArg (State.putReport _ p) (ReportPath.written_closes no_lost closes)).trans (State.putReport_false _ _ _))
  · subst last
    rw [exec_recordWordWritten_done flying, ReportPath.recordWritten_last, ReportPath.recordDone_of_record no_lost queue]
    refine congrArg (fun t : State => Host.Outcome.next t.grant)
      ((congrArg (State.putReport _ p) (ReportPath.written_cuts no_lost full mark queued)).trans ?_)
    simp only [State.putReport, Bool.or_true]
    rfl
  · subst last
    have goes := ReportPath.ownedNext_of_room (r := { s.report p with recordWord := 0, fill := 1, lostRecord := none })
      (show 1 < 8 by decide) more
    rw [exec_recordWordWritten_done flying, ReportPath.recordWritten_last, ReportPath.recordDone_of_lost formed, fresh]
    exact congrArg (fun t : State => Host.Outcome.next t.grant)
      ((congrArg (State.putReport _ p) goes).trans (State.putReport_false _ _ _))
  · subst last
    have goes := ReportPath.ownedNext_of_done (r := { s.report p with recordWord := 0, fill := 1, lostRecord := none })
      rfl Nat.one_ne_zero mark done
    rw [exec_recordWordWritten_done flying, ReportPath.recordWritten_last, ReportPath.recordDone_of_lost formed, fresh]
    exact congrArg (fun t : State => Host.Outcome.next t.grant)
      ((congrArg (State.putReport _ p) goes).trans (State.putReport_false _ _ _))

/-! ## Bus errors and the close (R158, R160, R161) -/

/-- A path in FAULT, as a bus error leaves it before the end of a flush that it meets. -/
theorem State.pageFault_eq_ite (s : State) (p : Pen) :
    s.putReport p (s.report p).pageFault =
      if (s.report p).flushing then (s.putReport p ((s.report p).faulted, (s.report p).discardQueue.2)).endFlush p
      else s.putReport p ((s.report p).faulted, (s.report p).discardQueue.2) := by
  unfold ReportPath.pageFault
  split
  case isTrue => rw [State.endFlush_eq, State.putReport_report_self, State.putReport_putReport]
  case isFalse => rfl

/-- Settles O51. -/
theorem pageFaultTaken : Obligations.PageFaultTaken := by
  intro p s
  have left := ((s.setPort none).note .fault).pageFault_eq_ite p
  refine ⟨fun flying => ?_, fun k flying => ?_, fun k flying => ?_⟩
  · exact (exec_reportStateRead_busError flying).trans (congrArg (fun t : State => Host.Outcome.next t.grant) left)
  · exact (exec_recordWordWritten_busError flying).trans (congrArg (fun t : State => Host.Outcome.next t.grant) left)
  · exact (exec_headerWordWritten_busError flying).trans (congrArg (fun t : State => Host.Outcome.next t.grant) left)

theorem headerWrite_eq (p : Pen) (r : ReportPath) (page : Nat) {k : Nat} (few : k ≤ 2) :
    headerWrite p r page k =
      { purpose := .headerWord p k, delivery := .live
        addr := if k = 0 then page + 1 else if k = 1 then page + 2 else page
        data := some (if k = 0 then BitVec.ofNat 16 r.fill else if k = 1 then r.seq else 1) } := by
  obtain rfl | rfl | rfl : k = 0 ∨ k = 1 ∨ k = 2 := by omega
  · rfl
  · rfl
  · rfl

theorem State.putReport_endFlush (s : State) (p : Pen) (r : ReportPath) :
    s.putReport p r.endFlush = (s.setReport p r).endFlush p := by
  rw [State.endFlush_eq, State.setReport_eq_putReport, State.putReport_report_self, State.putReport_putReport, Bool.false_or]

/-- Settles O52. -/
theorem headerWordTaken : Obligations.HeaderWordTaken := by
  intro p k s few
  refine ⟨fun pg pages turning step => ?_, fun flying early => ?_, fun flying last rests => ?_, fun n flying last mark => ?_⟩
  · rw [State.reportWaits_of_turning pages turning (by omega), step, headerWrite_eq _ _ _ few]
  · rw [exec_headerWordWritten_done flying, State.headerWritten_eq, if_pos early]
    exact congrArg (fun t : State => Host.Outcome.next t.grant) (State.putReport_false _ _ _)
  · subst last
    have closed : (s.report p).closed = { s.report p with turnStep := 3, seq := (s.report p).seq + 1, mark := none } := by
      rw [ReportPath.closed, rests]
      rfl
    rw [exec_headerWordWritten_done flying, State.headerWritten_eq, if_neg (Nat.lt_irrefl 2),
      if_neg fun both => absurd both.1 (ne_true_of_eq_false rests)]
    exact congrArg (fun t : State => Host.Outcome.next t.grant)
      ((State.putReport_false _ _ _).trans (congrArg (State.setReport _ p) closed))
  · subst last
    have flushing := ReportPath.flushing_of_flush mark
    have count : (s.report p).markCount = n := ReportPath.markCount_of_some mark
    have closed : (s.report p).closed = { s.report p with turnStep := 3, seq := (s.report p).seq + 1 } := by
      rw [ReportPath.closed, if_pos flushing]
    rw [exec_headerWordWritten_done flying, State.headerWritten_eq, if_neg (Nat.lt_irrefl 2)]
    refine congrArg (fun t : State => Host.Outcome.next t.grant) ?_
    have same : (s.setPort none).report p = s.report p := rfl
    by_cases empty : n = 0
    · rw [if_pos ⟨flushing, count.trans empty⟩, if_pos empty, same, closed]
      exact State.putReport_endFlush _ _ _
    · rw [if_neg fun both => empty (count.symm.trans both.2), if_neg empty, same, closed]
      exact State.putReport_false _ _ _

end Sys2Proof.Machine
end

section
/-! PROOF. Requests handed to the pens: arming and disarming (R26 to R30, R131, R175). -/

namespace Sys2Proof.Machine

open Sys2Proof

/-! ## A request taken and served -/

/-- The end of a TAKEN write without a bus error, for every kind of request. -/
theorem State.takenEnd_serve {s : State} {k : Option Kind} {slot : SlotNo} {ws : List Word} (taking : s.takenInFlight k slot ws)
    {serve : State → SlotNo → List Word → State} (serves : ∀ u n l, serve u n l = u.serve k n l) :
    s.takenEnd k .done serve = ((s.taken slot).serve k slot ws).grant := by
  obtain ⟨⟨w, kind_eq, flying⟩, work⟩ := taking
  obtain rfl : serve = fun u n l => u.serve k n l := by
    funext u n l
    exact serves u n l
  have is_taken : isTaken k (.taken w) = true := decide_eq_true kind_eq
  have served : ((s.setPort none).joinOutstanding slot).serve k slot ws = (s.taken slot).serve k slot ws := rfl
  rw [State.takenEnd, State.accessEnd_of_flight flying is_taken]
  · simp only [State.setPort_engine, work, reduceCtorEq, decide_false, Bool.false_eq_true, if_false]
    exact congrArg State.grant served
  · intro t idle
    split
    case h_1 n l _ => exact State.serve_mode _ k n l idle
    case h_2 => rfl

/-- Every request, once taken, is served by its kind (R172, R173). -/
theorem exec_request {s : State} {k : Option Kind} {slot : SlotNo} {ws : List Word} (taking : s.takenInFlight k slot ws) :
    exec (requestCommand k .done) s = .next ((s.taken slot).serve k slot ws).grant := by
  cases k with
  | none => exact congrArg Host.Outcome.next (State.takenEnd_serve taking fun _ _ _ => rfl)
  | some kind =>
    cases kind <;> exact congrArg Host.Outcome.next (State.takenEnd_serve taking fun _ _ _ => rfl)

/-! ## Pen codes (R183) -/

theorem penOf_of_toNat {w : Word} {p : Pen} (code : w.toNat = penNumber p) : penOf w = some p := by
  cases p with
  | p0 => rw [show w = 0 from BitVec.eq_of_toNat_eq code]; rfl
  | p1 => rw [show w = 1 from BitVec.eq_of_toNat_eq code]; rfl
  | p2 => rw [show w = 2 from BitVec.eq_of_toNat_eq code]; rfl
  | p3 => rw [show w = 3 from BitVec.eq_of_toNat_eq code]; rfl

theorem penOf_of_three_lt {w : Word} (past : 3 < w.toNat) : penOf w = none := by
  have other : ∀ n : Word, n.toNat ≤ 3 → w ≠ n := fun n small same => absurd past (same ▸ Nat.not_lt.2 small)
  unfold penOf
  rw [if_neg (other 0 (by decide)), if_neg (other 1 (by decide)), if_neg (other 2 (by decide)), if_neg (other 3 (by decide))]

theorem penNumber_of_penOf {w : Word} {p : Pen} (named : penOf w = some p) : w.toNat = penNumber p := by
  by_contra other
  have small : w.toNat ≤ 3 := by
    by_contra past
    rw [penOf_of_three_lt (Nat.not_le.1 past)] at named
    cases named
  obtain ⟨q, code⟩ : ∃ q, w.toNat = penNumber q := by
    obtain is | is | is | is : w.toNat = 0 ∨ w.toNat = 1 ∨ w.toNat = 2 ∨ w.toNat = 3 := by omega
    · exact ⟨.p0, is⟩
    · exact ⟨.p1, is⟩
    · exact ⟨.p2, is⟩
    · exact ⟨.p3, is⟩
  rw [penOf_of_toNat code] at named
  cases named
  exact other code

theorem penOf_of_le {w : Word} (small : w.toNat ≤ 3) : ∃ p, penOf w = some p ∧ w.toNat = penNumber p := by
  obtain is | is | is | is : w.toNat = 0 ∨ w.toNat = 1 ∨ w.toNat = 2 ∨ w.toNat = 3 := by omega
  · exact ⟨.p0, penOf_of_toNat is, is⟩
  · exact ⟨.p1, penOf_of_toNat is, is⟩
  · exact ⟨.p2, penOf_of_toNat is, is⟩
  · exact ⟨.p3, penOf_of_toNat is, is⟩

/-! ## A disarm (R29, R30) -/

/-- The load's origin without the awaiting record of a pen, as the statements write it. -/
def LoadOrigin.withoutPen (p : Pen) (o : LoadOrigin) : LoadOrigin :=
  match o with
  | .pageButton (some await) => .pageButton (if await.pen = p then none else some await)
  | .backButton (some await) => .backButton (if await.pen = p then none else some await)
  | origin => origin

/-- The unit without the MENU record that awaits a load of a pen (R124). -/
def MenuUnit.unawaited (m : MenuUnit) (p : Pen) : MenuUnit :=
  { m with load := m.load.map (fun l => { l with origin := l.origin.withoutPen p }) }

/-- The access of a pen's live centre write ended (R132). -/
def Access.releasedBy (p : Pen) (a : Access) : Access :=
  match a.purpose with
  | .centreWord q _ => if q = p ∧ a.delivery = .live then { a with delivery := .ended } else a
  | _ => a

theorem MenuUnit.dropAwaits_pen (m : MenuUnit) (p : Pen) : m.dropAwaits (fun q => decide (q = p)) = m.unawaited p := by
  have each : ∀ o : LoadOrigin, o.without (fun q => decide (q = p)) = o.withoutPen p := fun o => by
    cases o with
    | setPage => rfl
    | pageButton w =>
      cases w with
      | none => rfl
      | some a => exact congrArg LoadOrigin.pageButton (if_congr decide_eq_true_iff rfl rfl)
    | backButton w =>
      cases w with
      | none => rfl
      | some a => exact congrArg LoadOrigin.backButton (if_congr decide_eq_true_iff rfl rfl)
  simp only [MenuUnit.dropAwaits_eq, each, MenuUnit.unawaited]

theorem Access.releasedBy_of_other {a : Access} (other : ∀ q second, a.purpose ≠ .centreWord q second) (p : Pen) :
    a.releasedBy p = a := by
  unfold Access.releasedBy
  split
  case h_1 q second is => exact absurd is (other q second)
  case h_2 => rfl

theorem Access.releasedBy_of_centre {a : Access} {q : Pen} {second : Bool} (is : a.purpose = .centreWord q second) (p : Pen) :
    a.releasedBy p = if q = p ∧ a.delivery = .live then { a with delivery := .ended } else a := by
  unfold Access.releasedBy
  simp only [is]

theorem Access.release_pen (a : Access) (p : Pen) : a.release (fun q => decide (q = p)) = a.releasedBy p := by
  by_cases other : ∀ q second, a.purpose ≠ .centreWord q second
  · rw [Access.release_of_other other, Access.releasedBy_of_other other]
  · simp only [not_forall, not_not] at other
    obtain ⟨q, second, is⟩ := other
    rw [Access.release_of_centre is, Access.releasedBy_of_centre is]
    exact if_congr (by rw [decide_eq_true_iff]) rfl rfl

section
variable (s : State) (p : Pen)

theorem State.menus_without : s.menus.map (MenuUnit.dropAwaits fun q => decide (q = p)) =
    { a := s.menus.a.unawaited p, b := s.menus.b.unawaited p } := by
  simp only [PerHead.map, MenuUnit.dropAwaits_pen]

theorem State.port_released : s.port.map (Access.release fun q => decide (q = p)) = s.port.map (Access.releasedBy p) := by
  congr 1
  funext a
  exact a.release_pen p

/-- A disarm as one state (R29, R30). -/
theorem State.disarm_whole :
    s.disarm p =
      { s with
        pens := s.pens.set p (s.pen p).disarmed
        menus := { a := s.menus.a.unawaited p, b := s.menus.b.unawaited p }
        port := s.port.map (Access.releasedBy p)
        reports := (s.flush p none).reports, regs := (s.flush p none).regs } := by
  rw [s.disarm_eq p, State.affect_of_gone s p rfl, s.menus_without, s.port_released, State.flush_eq]
  simp only [PenView.disarmed, State.penView, List.append_nil]
  rfl

end

section
variable {t : State} {ws : List Word} {p : Pen} (named : penOf (arg ws 4) = some p) (slot : SlotNo)
include named

theorem State.doDisarmPen_of_pen :
    t.doDisarmPen slot ws =
      (if ((t.disturb p).pen p).state = .armed then (t.disturb p).disarm p else t.disturb p).reply slot codeOK 0 := by
  simp only [State.doDisarmPen, named]

theorem State.doDisarmPen_of_disarmed (off : (t.pen p).state = .disarmed) : t.doDisarmPen slot ws = t.reply slot 0 0 := by
  have quiet := t.disturb_of_not_calibrating p (by rw [off]; exact PenState.noConfusion)
  rw [State.doDisarmPen_of_pen named, quiet, off, if_neg PenState.noConfusion]
  rfl

theorem State.doDisarmPen_of_armed (armed : (t.pen p).state = .armed) :
    t.doDisarmPen slot ws = (t.disarm p).reply slot 0 0 := by
  have quiet := t.disturb_of_not_calibrating p (by rw [armed]; exact PenState.noConfusion)
  rw [State.doDisarmPen_of_pen named, quiet, if_pos armed]
  rfl

theorem State.doDisarmPen_of_calibrating {k : Calibration} (state : (t.pen p).state = .calibrating) (calib : (t.pen p).calib = some k) :
    t.doDisarmPen slot ws =
      (((t.answer k.slot codeDisturbed (wordOf k.good)).setPen p (t.pen p).calibrationEnded).disarm p).reply slot 0 0 := by
  have ended : (t.pen p).calibrationEnded.state = .armed := rfl
  rw [State.doDisarmPen_of_pen named, t.disturb_of_calibrating p state calib, State.pen_setPen_self, if_pos ended]
  rfl

end

/-- Settles O35. -/
theorem disarmPenServed : Obligations.DisarmPenServed := by
  refine ⟨fun slot ws s taking => ⟨fun bad => ?_, fun p code => ⟨fun off => ?_, fun armed => ?_, fun k state calib => ?_⟩⟩,
    fun p s => s.disarm_whole p⟩
  · refine (exec_request taking).trans ?_
    simp only [State.serve, State.doDisarmPen, penOf_of_three_lt bad]
    rfl
  · exact (exec_request taking).trans (congrArg (fun t : State => Host.Outcome.next t.grant)
      (State.doDisarmPen_of_disarmed (t := s.taken slot) (penOf_of_toNat code) slot off))
  · exact (exec_request taking).trans (congrArg (fun t : State => Host.Outcome.next t.grant)
      (State.doDisarmPen_of_armed (t := s.taken slot) (penOf_of_toNat code) slot armed))
  · exact (exec_request taking).trans (congrArg (fun t : State => Host.Outcome.next t.grant)
      (State.doDisarmPen_of_calibrating (t := s.taken slot) (penOf_of_toNat code) slot state calib))

/-! ## An ARM at the pen (R26, R27, R131) -/

/-- The cross of a pen armed with a fence or without one, as the statements write it. -/
def Tracking.armedWith (t : Tracking) (live : Prop) [Decidable live] (fence : Option Fence) : Tracking :=
  match fence with
  | none =>
    { t with
      fix := .noFix, sumX := 0, nX := 0, sumY := 0, nY := 0, fence := none
      centre := if live then .idle else t.centre
      second := if live then false else t.second }
  | some f =>
    { fix := .noFix, fence := some f, sumX := 0, nX := 0, sumY := 0, nY := 0, miss := 0, lastArm := none
      cx := (f.xmin + f.xmax) / 2, cy := (f.ymin + f.ymax) / 2
      rx := (f.xmin + f.xmax) / 2, ry := (f.ymin + f.ymax) / 2
      centre := if live ∨ t.centre = .idle then .writing else .writingAgain
      second := if live ∨ t.centre = .idle then false else t.second }

theorem Tracking.armed_eq (t : Tracking) (live : Prop) [Decidable live] (fence : Option Fence) :
    (if live then t.rest else t).armed fence = t.armedWith live fence := by
  by_cases is : live
  · rw [if_pos is]
    cases fence with
    | none => simp only [Tracking.armedWith, if_pos is]; rfl
    | some f => simp only [Tracking.armedWith, if_pos (show live ∨ t.centre = .idle from .inl is)]; rfl
  · rw [if_neg is]
    cases fence with
    | none => simp only [Tracking.armedWith, if_neg is]; rfl
    | some f =>
      obtain ⟨fix, fence, cx, cy, rx, ry, sumX, nX, sumY, nY, miss, lastArm, centre, second⟩ := t
      have at_rest : (live ∨ centre = .idle) = (centre = .idle) := propext (or_iff_right is)
      simp only [Tracking.armedWith, at_rest]
      cases centre <;> rfl

theorem State.arm_of_live {s : State} {rq : ArmRequest} (fence : Option Fence) (armed : (s.pen rq.pen).state = .armed) :
    s.arm rq fence =
      { s with
        pens := s.pens.set rq.pen ((s.pen rq.pen).armedBy rq fence (s.head rq.opts.head).hold)
        menus := { a := s.menus.a.unawaited rq.pen, b := s.menus.b.unawaited rq.pen }
        port := s.port.map (Access.releasedBy rq.pen)
        reports := (s.flush rq.pen (some rq.pages)).reports, regs := (s.flush rq.pen (some rq.pages)).regs } := by
  have reading : ∀ t : State, t.port = s.port.map (Access.release fun q => decide (q = rq.pen)) →
      t.pageReadInFlight rq.pen = s.pageReadInFlight rq.pen := fun t port => by
    unfold State.pageReadInFlight
    rw [port]
    cases s.port with
    | none => rfl
    | some a => exact Access.release_reading _ a rq.pen
  have ended : (s.endArm rq.pen).port = s.port.map (Access.release fun q => decide (q = rq.pen)) := by rw [State.endArm_eq]
  unfold State.arm PenChannel.armedBy
  dsimp only
  rw [if_pos armed, if_pos armed, State.flush_eq, State.flush_eq, reading _ ended, State.endArm_eq, s.menus_without, s.port_released]
  simp only [State.putReport, State.setPen, State.pen, State.report, State.head, PerPen.get_set_self, PerPen.set_set]

/-- The path of a DISARMED pen with the pages of its next arm (R155, R160). -/
def ReportPath.armedWith (r : ReportPath) (pg : PageAddrs) : ReportPath :=
  if r.flushing then { r with pendingPages := some pg } else r.takePages pg

theorem State.arm_of_disarmed {s : State} {rq : ArmRequest} (fence : Option Fence) (off : (s.pen rq.pen).state = .disarmed) :
    s.arm rq fence =
      { s with
        pens := s.pens.set rq.pen ((s.pen rq.pen).armedBy rq fence (s.head rq.opts.head).hold)
        reports := s.reports.set rq.pen ((s.report rq.pen).armedWith rq.pages) } := by
  have not_armed : ¬ (s.pen rq.pen).state = .armed := by
    rw [off]
    exact PenState.noConfusion
  unfold State.arm PenChannel.armedBy ReportPath.armedWith
  dsimp only
  rw [if_neg not_armed, if_neg not_armed]
  split
  case isTrue => rfl
  case isFalse => rfl

theorem PenChannel.armedBy_eq (c : PenChannel) (rq : ArmRequest) (fence : Option Fence) (held : Bool) :
    c.armedBy rq fence held =
      { c with
        opts := rq.opts, delay := rq.delay.getD c.delay, deadMark := none, run := none, lockout := none, state := .armed
        window := { table := [], idle := 0, crowded := false, nextArrival := 1 }
        heldMark := held, track := c.track.armedWith (c.state = .armed) fence } := by
  rw [PenChannel.armedBy, Tracking.armed_eq]
  rfl

/-- Settles O34. -/
theorem penArmed : Obligations.PenArmed := by
  intro rq fence s _
  refine ⟨fun off => ?_, fun armed => ?_⟩
  · rw [State.arm_of_disarmed fence off, PenChannel.armedBy_eq]
    rfl
  · rw [State.arm_of_live fence armed, PenChannel.armedBy_eq]
    rfl

/-! ## ARM PEN at the engine (R131, R175) -/

/-- The checks 1 to 4 of R175. -/
def armPasses (ws : List Word) : Prop :=
  (arg ws 4).toNat ≤ 3 ∧ (arg ws 5).toNat ≤ 1 ∧ (arg ws 6).toNat % 256 ≤ 1 ∧ (arg ws 7).toNat ≤ 1 ∧
  ((arg ws 9).toNat ≤ 255 ∨ arg ws 9 = 0xFFFF) ∧
  (arg ws 11).toNat * 65536 + (arg ws 10).toNat ≠ 0 ∧ (arg ws 13).toNat * 65536 + (arg ws 12).toNat ≠ 0 ∧
  ((arg ws 11).toNat * 65536 + (arg ws 10).toNat) % 4 = 0 ∧ ((arg ws 13).toNat * 65536 + (arg ws 12).toNat) % 4 = 0 ∧
  (arg ws 11).toNat * 65536 + (arg ws 10).toNat + 99 ≤ 4194303 ∧ (arg ws 13).toNat * 65536 + (arg ws 12).toNat + 99 ≤ 4194303 ∧
  ((arg ws 11).toNat * 65536 + (arg ws 10).toNat + 99 < (arg ws 13).toNat * 65536 + (arg ws 12).toNat ∨
    (arg ws 13).toNat * 65536 + (arg ws 12).toNat + 99 < (arg ws 11).toNat * 65536 + (arg ws 10).toNat) ∧
  ((arg ws 6).toNat % 256 = 1 → (arg ws 6).toNat / 256 ≤ 3 ∧ (arg ws 15).toNat * 65536 + (arg ws 14).toNat + 5 ≤ 4194303)

/-- What an ARM PEN that passes asks for, with its pen and head. -/
def armRequest (ws : List Word) (p : Pen) (h : Head) : ArmRequest :=
  { pen := p
    opts :=
      { head := h
        mode := if (arg ws 6).toNat % 256 = 0 then .pick else .track
        single := decide (arg ws 7 = 1)
        gated := (arg ws 8).getLsbD 0
        block := if (arg ws 6).toNat % 256 = 0 then none else some ((arg ws 15).toNat * 65536 + (arg ws 14).toNat)
        view := if (arg ws 6).toNat % 256 = 0 then 0 else Fin.ofNat 4 ((arg ws 6).toNat / 256) }
    delay := if arg ws 9 = 0xFFFF then none else some (arg ws 9).toNat
    pages :=
      { page0 := (arg ws 11).toNat * 65536 + (arg ws 10).toNat, page1 := (arg ws 13).toNat * 65536 + (arg ws 12).toNat } }

theorem headOf_of_le {w : Word} (small : w.toNat ≤ 1) : ∃ h, headOf w = some h ∧ w.toNat = headNumber h := by
  obtain is | is : w.toNat = 0 ∨ w.toNat = 1 := by omega
  · exact ⟨.A, headOf_of_toNat is, is⟩
  · exact ⟨.B, headOf_of_toNat is, is⟩

theorem headOf_of_headNumber {w : Word} {h : Head} (code : w.toNat = headNumber h) : headOf w = some h :=
  headOf_of_toNat (code.trans (by cases h <;> rfl))

theorem inSpace_iff (addr last : Nat) : inSpace addr last = true ↔ addr + last ≤ 4194303 := decide_eq_true_iff

theorem pagesOf_eq (ws : List Word) :
    pagesOf ws =
      if (arg ws 11).toNat * 65536 + (arg ws 10).toNat ≠ 0 ∧ (arg ws 13).toNat * 65536 + (arg ws 12).toNat ≠ 0 ∧
          ((arg ws 11).toNat * 65536 + (arg ws 10).toNat) % 4 = 0 ∧ ((arg ws 13).toNat * 65536 + (arg ws 12).toNat) % 4 = 0 ∧
          (arg ws 11).toNat * 65536 + (arg ws 10).toNat + 99 ≤ 4194303 ∧
          (arg ws 13).toNat * 65536 + (arg ws 12).toNat + 99 ≤ 4194303 ∧
          ((arg ws 11).toNat * 65536 + (arg ws 10).toNat + 99 < (arg ws 13).toNat * 65536 + (arg ws 12).toNat ∨
            (arg ws 13).toNat * 65536 + (arg ws 12).toNat + 99 < (arg ws 11).toNat * 65536 + (arg ws 10).toNat) then
        some
          { page0 := (arg ws 11).toNat * 65536 + (arg ws 10).toNat, page1 := (arg ws 13).toNat * 65536 + (arg ws 12).toNat }
      else none := by
  unfold pagesOf
  dsimp only
  rw [addrOf_eq, addrOf_eq]
  refine if_congr ?_ rfl rfl
  simp only [Bool.and_eq_true, Bool.or_eq_true, decide_eq_true_eq, inSpace_iff, and_assoc, ne_eq]
  omega

theorem word_eq_ffff_iff (w : Word) : w.toNat = 0xFFFF ↔ w = 0xFFFF :=
  ⟨fun same => BitVec.eq_of_toNat_eq same, fun same => congrArg BitVec.toNat same⟩

theorem word_eq_one_iff (w : Word) : w.toNat = 1 ↔ w = 1 :=
  ⟨fun same => BitVec.eq_of_toNat_eq same, fun same => congrArg BitVec.toNat same⟩

theorem armRequestOf_eq {ws : List Word} {p : Pen} {h : Head} {pg : PageAddrs} (pen : penOf (arg ws 4) = some p)
    (head : headOf (arg ws 5) = some h) (pages : pagesOf ws = some pg) :
    armRequestOf ws =
      if (arg ws 6).toNat % 256 ≤ 1 ∧ (arg ws 7).toNat ≤ 1 ∧ ((arg ws 9).toNat ≤ 255 ∨ arg ws 9 = 0xFFFF) ∧
          ((arg ws 6).toNat % 256 = 1 →
            (arg ws 6).toNat / 256 ≤ 3 ∧ (arg ws 15).toNat * 65536 + (arg ws 14).toNat + 5 ≤ 4194303) then
        some { armRequest ws p h with pages := pg }
      else none := by
  have low : bits (arg ws 6) 7 0 = (arg ws 6).toNat % 256 := by
    rw [bits]
    norm_num
  have high : bits (arg ws 6) 15 8 = (arg ws 6).toNat / 256 := by
    have small := (arg ws 6).isLt
    show (arg ws 6).toNat / 2 ^ 8 % 2 ^ (15 - 8 + 1) = _
    omega
  unfold armRequestOf armRequest
  rw [pen, head, pages]
  dsimp only
  rw [low, high, addrOf_eq]
  refine if_congr ?_ ?_ rfl
  · simp only [Bool.and_eq_true, Bool.or_eq_true, decide_eq_true_eq, inSpace_iff, word_eq_ffff_iff, and_assoc]
    refine and_congr_right fun small => and_congr_right fun _ => and_congr_right fun _ => ?_
    constructor
    · intro either is
      exact either.resolve_left (by omega)
    · intro ok
      by_cases zero : (arg ws 6).toNat % 256 = 0
      · exact .inl zero
      · exact .inr (ok (by omega))
  · simp only [word_eq_ffff_iff, word_eq_one_iff]

theorem armRequestOf_passes {ws : List Word} (passes : armPasses ws) {p : Pen} {h : Head} (pen : (arg ws 4).toNat = penNumber p)
    (head : (arg ws 5).toNat = headNumber h) : armRequestOf ws = some (armRequest ws p h) := by
  obtain ⟨-, -, mode, rep, delay, a, b, a4, b4, a_in, b_in, apart, block⟩ := passes
  have pages := (pagesOf_eq ws).trans (if_pos ⟨a, b, a4, b4, a_in, b_in, apart⟩)
  rw [armRequestOf_eq (penOf_of_toNat pen) (headOf_of_headNumber head) pages, if_pos ⟨mode, rep, delay, block⟩]
  rfl

theorem armRequestOf_fails {ws : List Word} (fails : ¬ armPasses ws) : armRequestOf ws = none := by
  cases pen : penOf (arg ws 4) with
  | none => simp only [armRequestOf, pen]
  | some p =>
    cases head : headOf (arg ws 5) with
    | none => simp only [armRequestOf, pen, head]
    | some h =>
      cases pages : pagesOf ws with
      | none => simp only [armRequestOf, pen, head, pages]
      | some pg =>
        refine (armRequestOf_eq pen head pages).trans (if_neg fun ⟨mode, rep, delay, block⟩ => fails ?_)
        have pen_code := penNumber_of_penOf pen
        have pen_small : (arg ws 4).toNat ≤ 3 := by
          rw [pen_code]
          cases p <;> decide
        have head_small : (arg ws 5).toNat ≤ 1 := by
          by_contra past
          rw [headOf_of_one_lt (Nat.not_le.1 past)] at head
          cases head
        rw [pagesOf_eq] at pages
        split at pages
        case isFalse => cases pages
        case isTrue all =>
          obtain ⟨a, b, a4, b4, a_in, b_in, apart⟩ := all
          exact ⟨pen_small, head_small, mode, rep, delay, a, b, a4, b4, a_in, b_in, apart, block⟩

/-- The four words name a fence (R131). -/
def fenceGood (x0 x1 y0 y1 : Word) : Bool :=
  decide (x0.toNat ≤ x1.toNat) && decide (x1.toNat ≤ 4095) && decide (y0.toNat ≤ y1.toNat) && decide (y1.toNat ≤ 4095)

theorem fenceOf_eq (x0 x1 y0 y1 : Word) :
    fenceOf [x0, x1, y0, y1] =
      if fenceGood x0 x1 y0 y1 then
        some { xmin := x0.toNat, xmax := x1.toNat, ymin := y0.toNat, ymax := y1.toNat }
      else none := by
  have screen : Config.screenMax = 4095 := rfl
  unfold fenceOf fenceGood
  dsimp only
  refine if_congr ?_ rfl rfl
  simp only [Bool.and_eq_true, decide_eq_true_eq, screen]
  omega

section
variable {s : State} {slot : SlotNo} {ws fence : List Word}

theorem exec_fenceRead_word (flying : s.inFlight .fenceWord) (w : Word) :
    exec (.fenceRead (.word w)) s = .next ((s.setPort none).fenceWordRead w).grant := by
  refine congrArg Host.Outcome.next (State.accessEnd_of_flight flying (decide_eq_true rfl) false fun t idle => ?_)
  exact Completion.mode (.fenceWordRead w) t idle

theorem exec_fenceRead_busError (flying : s.inFlight .fenceWord) :
    exec (.fenceRead .busError) s = .next ((s.setPort none).note .fault).fenceFailed.grant :=
  congrArg Host.Outcome.next (State.accessEnd_of_flight flying (decide_eq_true rfl) true fun t idle =>
    Completion.mode .fenceFailed t idle)

theorem State.fenceWordRead_more (fencing : s.engine.work = .fencing slot ws fence) (more : fence.length < 3) (w : Word) :
    s.fenceWordRead w = s.work (.fencing slot ws (fence ++ [w])) := by
  have short : (fence ++ [w]).length < 4 := by
    rw [List.length_append, List.length_singleton]
    omega
  simp only [State.fenceWordRead, fencing, if_pos short]

theorem State.fenceWordRead_last {x0 x1 y0 : Word} (fencing : s.engine.work = .fencing slot ws [x0, x1, y0]) (w : Word)
    {rq : ArmRequest} (accepted : armRequestOf ws = some rq) :
    s.fenceWordRead w =
      if fenceGood x0 x1 y0 w then
        (s.arm rq (some { xmin := x0.toNat, xmax := x1.toNat, ymin := y0.toNat, ymax := w.toNat })).reply slot 0 0
      else s.reply slot 2 0 := by
  have last : ¬ ([x0, x1, y0] ++ [w]).length < 4 := Nat.lt_irrefl 4
  have words : [x0, x1, y0] ++ [w] = [x0, x1, y0, w] := rfl
  simp only [State.fenceWordRead, fencing, if_neg last, accepted]
  rw [words, fenceOf_eq]
  cases fenceGood x0 x1 y0 w <;> rfl

theorem State.fenceFailed_of_fencing (fencing : s.engine.work = .fencing slot ws fence) :
    s.fenceFailed = s.reply slot codeBusError (wordOf (2 + fence.length)) := by
  simp only [State.fenceFailed, fencing]

theorem State.doArmPen_of_request {t : State} {rq : ArmRequest} (accepted : armRequestOf ws = some rq) :
    t.doArmPen slot ws =
      if (t.pen rq.pen).state = .calibrating then t.reply slot 3 0
      else
        match rq.opts.mode with
        | .pick => (t.arm rq none).reply slot 0 0
        | .track => t.work (.fencing slot ws []) := by
  simp only [State.doArmPen, accepted]
  split
  case isTrue => rfl
  case isFalse => cases rq.opts.mode <;> rfl

end

/-- Settles O33. -/
theorem armPenServed : Obligations.ArmPenServed := by
  intro slot ws s
  refine ⟨fun taking => ⟨fun fails => ?_, fun p passes code => ?_⟩, fun fence no_results fencing => ?_,
    fun fence w flying fencing => ⟨fun more => ?_, fun p h x0 x1 y0 passes mode pen head words => ?_, ?_⟩⟩
  · refine (exec_request taking).trans ?_
    simp only [State.serve, State.doArmPen, armRequestOf_fails fails]
    rfl
  · obtain ⟨-, head_small, -⟩ := id passes
    obtain ⟨h, -, head⟩ := headOf_of_le head_small
    have accepted := armRequestOf_passes passes code head
    have served := (exec_request taking).trans (congrArg (fun t : State => Host.Outcome.next t.grant)
      (State.doArmPen_of_request (t := s.taken slot) (slot := slot) accepted))
    refine ⟨fun busy => ?_, fun free track => ?_, fun free pick => ?_⟩
    · exact served.trans (congrArg (fun t : State => Host.Outcome.next t.grant) (if_pos busy))
    · have mode : (armRequest ws p h).opts.mode = .track := if_neg (by omega)
      rw [mode] at served
      exact served.trans (congrArg (fun t : State => Host.Outcome.next t.grant) (if_neg free))
    · have mode : (armRequest ws p h).opts.mode = .pick := if_pos pick
      rw [mode] at served
      exact ⟨armRequest ws p h, rfl, head.symm, mode, decide_eq_true_iff, rfl, rfl, rfl,
        served.trans (congrArg (fun t : State => Host.Outcome.next t.grant) (if_neg free))⟩
  · simp only [State.engineWaits, no_results, State.workWaits, fencing, addrOf_eq]
  · rw [exec_fenceRead_word flying, State.fenceWordRead_more (s := s.setPort none) fencing more]
    rfl
  · subst words
    have request : armRequestOf ws = _ := armRequestOf_passes passes pen head
    have pick : ¬ (arg ws 6).toNat % 256 = 0 := by
      have is : (arg ws 6).toNat % 256 = 1 := mode
      omega
    rw [armRequest, if_neg pick, if_neg pick, if_neg pick] at request
    rw [exec_fenceRead_word flying, State.fenceWordRead_last (s := s.setPort none) fencing w request]
    rfl
  · rw [exec_fenceRead_busError flying, State.fenceFailed_of_fencing (s := (s.setPort none).note .fault) fencing]
    rfl

end Sys2Proof.Machine
end

section
/-! PROOF. MOVE CROSS, CALIBRATE PEN, SET MENU PAGE, HOLD HEAD and RELEASE HEAD as the engine serves them (R127, R139, R145, R176). -/

namespace Sys2Proof.Machine

open Sys2Proof

/-- A request as it is served. -/
theorem exec_served {s t : State} {k : Option Kind} {slot : SlotNo} {ws : List Word} (taking : s.takenInFlight k slot ws)
    (served : (s.taken slot).serve k slot ws = t) : exec (requestCommand k .done) s = .next t.grant :=
  served ▸ exec_request taking

/-! ## MOVE CROSS (R139) -/

section
variable {s : State} {slot : SlotNo} {ws : List Word} {p : Pen}

theorem State.doMoveCross_bad (bad : 3 < (arg ws 4).toNat ∨ 4095 < (arg ws 5).toNat ∨ 4095 < (arg ws 6).toNat) :
    s.doMoveCross slot ws = s.reply slot 2 0 := by
  cases named : penOf (arg ws 4) with
  | none =>
    simp only [State.doMoveCross, named]
    rfl
  | some p =>
    have off_screen : Config.screenMax < (arg ws 5).toNat ∨ Config.screenMax < (arg ws 6).toNat :=
      bad.resolve_left fun past => by
        rw [penOf_of_three_lt past] at named
        cases named
    simp only [State.doMoveCross, named, if_pos off_screen]
    rfl

variable (named : penOf (arg ws 4) = some p) (x_in : (arg ws 5).toNat ≤ 4095) (y_in : (arg ws 6).toNat ≤ 4095)
include named x_in y_in

theorem State.doMoveCross_eq :
    s.doMoveCross slot ws =
      match (s.pen p).state, (s.pen p).opts.mode with
      | .calibrating, _ => s.reply slot codeBusy 0
      | .disarmed, _ | .armed, .pick => s.reply slot codeNotArmed 0
      | .armed, .track =>
        (s.setPen p { s.pen p with track := (s.pen p).track.moveCross (arg ws 5).toNat (arg ws 6).toNat }).reply slot codeOK 0 := by
  have on_screen : ¬ (Config.screenMax < (arg ws 5).toNat ∨ Config.screenMax < (arg ws 6).toNat) := fun either =>
    either.elim (Nat.not_lt.2 x_in) (Nat.not_lt.2 y_in)
  simp only [State.doMoveCross, named, if_neg on_screen] <;> rfl

theorem State.doMoveCross_of_no_cross (no_cross : (s.pen p).state = .disarmed ∨ (s.pen p).state = .armed ∧ (s.pen p).opts.mode = .pick) :
    s.doMoveCross slot ws = s.reply slot 7 0 := by
  refine (State.doMoveCross_eq named x_in y_in).trans ?_
  rcases no_cross with off | ⟨armed, pick⟩
  · rw [off]
    rfl
  · rw [armed, pick]
    rfl

theorem State.doMoveCross_of_calibrating (state : (s.pen p).state = .calibrating) : s.doMoveCross slot ws = s.reply slot 3 0 := by
  refine (State.doMoveCross_eq named x_in y_in).trans ?_
  rw [state]
  rfl

theorem State.doMoveCross_of_track (armed : (s.pen p).state = .armed) (track : (s.pen p).opts.mode = .track) :
    s.doMoveCross slot ws =
      (s.setPen p { s.pen p with track := (s.pen p).track.moveCross (arg ws 5).toNat (arg ws 6).toNat }).reply slot 0 0 := by
  refine (State.doMoveCross_eq named x_in y_in).trans ?_
  simp only [armed, track]
  rfl

end

theorem Tracking.raiseCentre_eq (t : Tracking) :
    t.raiseCentre =
      { t with
        centre := if t.centre = .idle then .writing else .writingAgain
        second := if t.centre = .idle then false else t.second } := by
  obtain ⟨fix, fence, cx, cy, rx, ry, sumX, nX, sumY, nY, miss, lastArm, centre, second⟩ := t
  cases centre <;> rfl

theorem Tracking.moveCross_eq {t : Tracking} {f : Fence} (fence : t.fence = some f) (x_order : f.xmin ≤ f.xmax)
    (y_order : f.ymin ≤ f.ymax) (x y : Nat) :
    t.moveCross x y =
      { t with
        cx := max f.xmin (min f.xmax x), cy := max f.ymin (min f.ymax y)
        rx := max f.xmin (min f.xmax x), ry := max f.ymin (min f.ymax y)
        sumX := 0, nX := 0, sumY := 0, nY := 0, miss := 0, lastArm := none, fix := .tracking
        centre := if t.centre = .idle then .writing else .writingAgain
        second := if t.centre = .idle then false else t.second } := by
  unfold Tracking.moveCross
  dsimp only
  rw [Tracking.fenceX_eq fence x_order, Tracking.fenceY_eq fence y_order, Tracking.raiseCentre_eq]
  rfl

/-- Settles O37. -/
theorem moveCrossServed : Obligations.MoveCrossServed := by
  intro slot ws s taking
  refine ⟨fun bad => ?_, fun p code x_in y_in => ⟨fun no_cross => ?_, fun state => ?_,
    fun f armed track fence x_order y_order => ?_⟩⟩
  · exact exec_served taking (State.doMoveCross_bad bad)
  · exact exec_served taking (State.doMoveCross_of_no_cross (s := s.taken slot) (penOf_of_toNat code) x_in y_in no_cross)
  · exact exec_served taking (State.doMoveCross_of_calibrating (s := s.taken slot) (penOf_of_toNat code) x_in y_in state)
  · refine exec_served taking
      ((State.doMoveCross_of_track (s := s.taken slot) (penOf_of_toNat code) x_in y_in armed track).trans ?_)
    have kept : (s.taken slot).pen p = s.pen p := rfl
    rw [kept, Tracking.moveCross_eq fence x_order y_order]
    rfl

/-! ## CALIBRATE PEN (R145) -/

theorem State.headCalibrating_iff (s : State) (p : Pen) :
    s.headCalibrating p = true ↔ ∃ q, q ≠ p ∧ s.penHead q = s.penHead p ∧ (s.pen q).state = .calibrating := by
  simp only [State.headCalibrating, List.any_eq_true, Bool.and_eq_true, bne_iff_ne, decide_eq_true_eq, and_assoc]
  exact ⟨fun ⟨q, _, all⟩ => ⟨q, all⟩, fun ⟨q, all⟩ => ⟨q, mem_allPens q, all⟩⟩

theorem State.doCalibratePen_eq {s : State} {slot : SlotNo} {ws : List Word} {p : Pen} (named : penOf (arg ws 4) = some p) :
    s.doCalibratePen slot ws =
      if (s.pen p).state = .disarmed then s.reply slot 7 0
      else if (s.pen p).state = .calibrating then s.reply slot 3 0
      else if (s.head (s.penHead p)).state ≠ .synced ∨ (s.head (s.penHead p)).hold = true then s.reply slot 8 0
      else if s.headCalibrating p = true then s.reply slot 3 0
      else
        (s.setPen p
          { s.pen p with
            state := .calibrating, window := { table := [], idle := 0, crowded := false, nextArrival := 1 }
            calib := some { slot := slot, good := 0, judged := 0, sum := 0, fwd := none, rev := none } }).passOn := by
  simp only [State.doCalibratePen, named]
  rfl

/-- Settles O38. -/
theorem calibratePenServed : Obligations.CalibratePenServed := by
  intro slot ws s taking
  refine ⟨fun bad => ?_, fun p code => ?_⟩
  · refine exec_served taking ?_
    simp only [State.serve, State.doCalibratePen, penOf_of_three_lt bad]
    rfl
  · have served := State.doCalibratePen_eq (s := s.taken slot) (slot := slot) (penOf_of_toNat code)
    have others := (s.taken slot).headCalibrating_iff p
    refine ⟨fun free => exec_served taking (served.trans ?_), fun q other same state => exec_served taking (served.trans ?_)⟩
    · rw [if_neg (c := (s.taken slot).headCalibrating p = true) fun busy => by
        obtain ⟨q, other, same, state⟩ := others.1 busy
        exact free q other same state]
      rfl
    · rw [if_pos (c := (s.taken slot).headCalibrating p = true) (others.2 ⟨q, other, same, state⟩)]
      rfl

/-! ## SET MENU PAGE (R127) -/

theorem State.doSetMenuPage_eq {s : State} {slot : SlotNo} {ws : List Word} {h : Head} (named : headOf (arg ws 4) = some h)
    (known : (arg ws 6).toNat ≤ 1) :
    s.doSetMenuPage slot ws =
      if 16 ≤ (arg ws 5).toNat then s.reply slot 10 (arg ws 5)
      else if (s.menu h).load ≠ none then s.reply slot 3 0
      else
        (s.setMenu h
          { s.menu h with
            staging := []
            load :=
              some
                { page := (arg ws 5).toNat, phase := .dirLow
                  origin := .setPage slot (decide (arg ws 6 = 1)) } }).passOn := by
  have action : decide ((arg ws 6).toNat = 1) = decide (arg ws 6 = 1) := decide_eq_decide.2 (word_eq_one_iff _)
  simp only [State.doSetMenuPage, named, if_neg (Nat.not_lt.2 known), Option.isSome_iff_ne_none, action]
  rfl

/-- Settles O39. -/
theorem setMenuPageServed : Obligations.SetMenuPageServed := by
  intro slot ws s taking
  refine ⟨fun bad => exec_served taking ?_, fun h code known => ?_⟩
  · cases named : headOf (arg ws 4) with
    | none =>
      simp only [State.serve, State.doSetMenuPage, named]
      rfl
    | some h =>
      have action : 1 < (arg ws 6).toNat := bad.resolve_left fun past => by
        rw [headOf_of_one_lt past] at named
        cases named
      simp only [State.serve, State.doSetMenuPage, named, if_pos action]
      rfl
  · exact exec_served taking (State.doSetMenuPage_eq (s := s.taken slot) (headOf_of_toNat code) known)

/-! ## HOLD HEAD and RELEASE HEAD (R9, R10, R176) -/

section
variable {s : State} {slot : SlotNo} {ws : List Word} {h : Head} (named : headOf (arg ws 4) = some h)
include named

theorem State.doHoldHead_eq : s.doHoldHead slot ws = (s.holdRequest h slot).passOn := by simp only [State.doHoldHead, named]

theorem State.doReleaseHead_eq : s.doReleaseHead slot ws = (s.releaseRequest h slot).passOn := by
  simp only [State.doReleaseHead, named]

end

section
variable {s : State} {h : Head} (slot : SlotNo)

/-- The pending change is given up, its slot answered ABORTED and the new request DONE (R9, R10). -/
def State.changeDropped (s : State) (h : Head) (w slot : SlotNo) : State :=
  ((s.setHead h { s.head h with holdPending := false, waitingSlot := none }).answer w 15 0).answer slot 0 0

theorem State.holdRequest_of_off (off : (s.head h).state = .off) : s.holdRequest h slot = s.answer slot 8 0 := if_pos off

section
variable (live : (s.head h).state ≠ .off)
include live

theorem State.holdRequest_begins (hold : (s.head h).hold = false) (pending : (s.head h).holdPending = false) :
    s.holdRequest h slot = s.setHead h { s.head h with holdPending := true, waitingSlot := some slot } := by
  simp only [State.holdRequest, if_neg live, hold, pending]

theorem State.holdRequest_busy (hold : (s.head h).hold = false) (pending : (s.head h).holdPending = true) :
    s.holdRequest h slot = s.answer slot 3 0 := by
  simp only [State.holdRequest, if_neg live, hold, pending]
  rfl

theorem State.holdRequest_held (hold : (s.head h).hold = true) (pending : (s.head h).holdPending = false) :
    s.holdRequest h slot = s.answer slot 0 0 := by
  simp only [State.holdRequest, if_neg live, hold, pending]
  rfl

theorem State.holdRequest_drops (hold : (s.head h).hold = true) (pending : (s.head h).holdPending = true) {w : SlotNo}
    (waiting : (s.head h).waitingSlot = some w) : s.holdRequest h slot = s.changeDropped h w slot := by
  simp only [State.holdRequest, if_neg live, hold, pending, waiting, State.changeDropped]
  rfl

end

theorem State.releaseRequest_begins (hold : (s.head h).hold = true) (pending : (s.head h).holdPending = false) :
    s.releaseRequest h slot = s.setHead h { s.head h with holdPending := true, waitingSlot := some slot } := by
  simp only [State.releaseRequest, hold, pending]

theorem State.releaseRequest_busy (hold : (s.head h).hold = true) (pending : (s.head h).holdPending = true) :
    s.releaseRequest h slot = s.answer slot 3 0 := by
  simp only [State.releaseRequest, hold, pending]
  rfl

theorem State.releaseRequest_free (hold : (s.head h).hold = false) (pending : (s.head h).holdPending = false) :
    s.releaseRequest h slot = s.answer slot 0 0 := by
  simp only [State.releaseRequest, hold, pending]
  rfl

theorem State.releaseRequest_drops (hold : (s.head h).hold = false) (pending : (s.head h).holdPending = true) {w : SlotNo}
    (waiting : (s.head h).waitingSlot = some w) : s.releaseRequest h slot = s.changeDropped h w slot := by
  simp only [State.releaseRequest, hold, pending, waiting, State.changeDropped]
  rfl

end

/-- Settles O40. -/
theorem holdAndReleaseServed : Obligations.HoldAndReleaseServed := by
  intro slot ws s
  refine ⟨fun taking => ⟨fun bad => exec_served taking ?_, fun h code => ?_⟩,
    fun taking => ⟨fun bad => exec_served taking ?_, fun h code => ?_⟩⟩
  · simp only [State.serve, State.doHoldHead, headOf_of_one_lt bad]
    rfl
  · have served : ∀ {t}, (s.taken slot).holdRequest h slot = t → exec (.holdHead .done) s = .next t.passOn.grant := fun is =>
      exec_served taking ((State.doHoldHead_eq (headOf_of_toNat code)).trans (congrArg State.passOn is))
    exact ⟨fun off => served (State.holdRequest_of_off slot off),
      fun live hold pending => served (State.holdRequest_begins slot live hold pending),
      fun live hold pending => served (State.holdRequest_busy slot live hold pending),
      fun live hold pending => served (State.holdRequest_held slot live hold pending),
      fun w live hold pending waiting => exec_served taking ((State.doHoldHead_eq (headOf_of_toNat code)).trans
        (congrArg State.passOn (State.holdRequest_drops (s := s.taken slot) slot live hold pending waiting)))⟩
  · simp only [State.serve, State.doReleaseHead, headOf_of_one_lt bad]
    rfl
  · have served : ∀ {t}, (s.taken slot).releaseRequest h slot = t → exec (.releaseHead .done) s = .next t.passOn.grant :=
      fun is => exec_served taking ((State.doReleaseHead_eq (headOf_of_toNat code)).trans (congrArg State.passOn is))
    exact ⟨fun hold pending => served (State.releaseRequest_begins slot hold pending),
      fun hold pending => served (State.releaseRequest_busy slot hold pending),
      fun hold pending => served (State.releaseRequest_free slot hold pending),
      fun w hold pending waiting => exec_served taking ((State.doReleaseHead_eq (headOf_of_toNat code)).trans
        (congrArg State.passOn (State.releaseRequest_drops (s := s.taken slot) slot hold pending waiting)))⟩

end Sys2Proof.Machine
end

section
/-! PROOF. Scans and slots, the engine's way past a slot, and a result's three writes (R170 to R174, R183). -/

namespace Sys2Proof.Machine

open Sys2Proof

/-! ## Scans (R171, R172) -/

theorem ScanPos.slot_val (q : ScanPos) : q.slot.val = (q.base.val + 1 + q.seen) % 8 := by
  show ((q.base.val + 1) % 8 + q.seen % 8) % 8 = _
  omega

theorem State.beginScan_eq (s : State) :
    s.beginScan =
      if s.engine.scanPending ∧ s.engine.scan = none ∧ s.regs.running then
        { s with
          engine := { s.engine with scanPending := false, scan := some { base := s.engine.lastServed, seen := 0 } } }
      else s :=
  if_congr (by rw [and_comm (a := s.engine.scan = none)]) rfl rfl

/-- One rule for a bus error on each access of the engine that reads or takes a slot. -/
theorem State.passOn_of_busError (s : State) :
    ((s.setPort none).note .fault).passOn =
      { s with
        port := none, engine := s.engine.passOn
        regs := { s.regs with notes := { s.regs.notes with fault := true } } } := rfl

section
variable {s : State}

theorem exec_stateWordRead_word {k : SlotNo} (flying : s.inFlight (.slotState k)) (w : Word) :
    exec (.stateWordRead (.word w)) s = .next ((s.setPort none).stateWordRead k w).grant :=
  congrArg Host.Outcome.next (State.accessEnd_of_flight flying rfl false fun t idle =>
    Completion.mode (.stateWordRead k w) t idle)

theorem exec_stateWordRead_busError {k : SlotNo} (flying : s.inFlight (.slotState k)) :
    exec (.stateWordRead .busError) s = .next ((s.setPort none).note .fault).passOn.grant :=
  congrArg Host.Outcome.next (State.accessEnd_of_flight flying rfl true fun t idle =>
    Completion.mode (.passOn (.slotState k)) t idle)

theorem exec_slotWordRead_word (flying : s.inFlight .slotWord) (w : Word) :
    exec (.slotWordRead (.word w)) s = .next ((s.setPort none).slotWordRead w).grant :=
  congrArg Host.Outcome.next (State.accessEnd_of_flight flying (decide_eq_true rfl) false fun t idle =>
    Completion.mode (.slotWordRead w) t idle)

theorem exec_slotWordRead_busError (flying : s.inFlight .slotWord) :
    exec (.slotWordRead .busError) s = .next ((s.setPort none).note .fault).passOn.grant :=
  congrArg Host.Outcome.next (State.accessEnd_of_flight flying (decide_eq_true rfl) true fun t idle =>
    Completion.mode (.passOn .slotWord) t idle)

theorem State.stateWordRead_eq (s : State) (k : SlotNo) (w : Word) :
    s.stateWordRead k w =
      { s with
        engine :=
          if w = 1 ∧ k ∉ s.engine.outstanding then { s.engine with work := .reading k [] } else s.engine.passOn } := by
  by_cases takes : w = posted ∧ k ∉ s.engine.outstanding
  · have same : w = 1 ∧ k ∉ s.engine.outstanding := takes
    rw [State.stateWordRead, if_pos takes, if_pos same]
    rfl
  · have same : ¬ (w = 1 ∧ k ∉ s.engine.outstanding) := takes
    rw [State.stateWordRead, if_neg takes, if_neg same]
    rfl

theorem State.slotWordRead_of_reading {k : SlotNo} {ws : List Word} (reading : s.engine.work = .reading k ws) (w : Word) :
    s.slotWordRead w =
      { s with
        engine :=
          { s.engine with work := if ws.length < 12 then .reading k (ws ++ [w]) else .taking k (ws ++ [w]) } } := by
  have length : (ws ++ [w]).length = ws.length + 1 := List.length_append
  simp only [State.slotWordRead, reading, length]
  by_cases more : ws.length < 12
  · rw [if_pos (show ws.length + 1 < 13 by omega), if_pos more]
    rfl
  · rw [if_neg (show ¬ ws.length + 1 < 13 by omega), if_neg more]
    rfl

variable (no_results : s.engine.results = [])
include no_results

theorem State.engineWaits_of_scan {q : ScanPos} (free : s.engine.work = .none) (scan : s.engine.scan = some q) :
    s.engineWaits =
      some { purpose := .slotState q.slot, addr := s.regs.anchor.toNat * 256 + 16 * q.slot.val, data := none, delivery := .live } := by
  simp only [State.engineWaits, no_results, State.workWaits, free, scan, Option.map_some, slotAddr, anchorAddr, Nat.add_zero]

theorem State.engineWaits_of_reading {k : SlotNo} {ws : List Word} (reading : s.engine.work = .reading k ws) :
    s.engineWaits =
      some
        { purpose := .slotWord, delivery := .live, data := none
          addr := s.regs.anchor.toNat * 256 + 16 * k.val + (if ws.length = 0 then 1 else ws.length + 3) } := by
  simp only [State.engineWaits, no_results, State.workWaits, reading, slotAddr, anchorAddr, slotOffset]

theorem State.engineWaits_of_taking {k : SlotNo} {kind : Word} {rest : List Word}
    (taking : s.engine.work = .taking k (kind :: rest)) :
    s.engineWaits =
      some { purpose := .taken kind, addr := s.regs.anchor.toNat * 256 + 16 * k.val, data := some takenCode, delivery := .live } := by
  simp only [State.engineWaits, no_results, State.workWaits, taking, List.getElem?_cons_zero, Option.getD_some, slotAddr, anchorAddr,
    Nat.add_zero, takenCode]

end

/-- Settles O29: a scan, the words it reads and their addresses. -/
theorem scanReadsSlots : Obligations.ScanReadsSlots := by
  refine fun s => ⟨congrArg (fun t : State => Host.Outcome.next t.grant) s.beginScan_eq, fun q _ => q.slot_val,
    fun _ _ _ => rfl, fun k w flying => ⟨?_, exec_stateWordRead_busError flying⟩,
    fun k ws w flying reading _ => ⟨?_, exec_slotWordRead_busError flying⟩, fun no_results => ⟨fun q free scan => ?_, fun k ws reading => ?_,
      fun k kind rest taking => ?_⟩⟩
  · exact (exec_stateWordRead_word flying w).trans
      (congrArg (fun t : State => Host.Outcome.next t.grant) ((s.setPort none).stateWordRead_eq k w))
  · exact (exec_slotWordRead_word flying w).trans
      (congrArg (fun t : State => Host.Outcome.next t.grant) (State.slotWordRead_of_reading (s := s.setPort none) reading w))
  · exact State.engineWaits_of_scan no_results free scan
  · exact State.engineWaits_of_reading no_results reading
  · exact State.engineWaits_of_taking no_results taking

/-! ## The end of a request (R172 to R174, R183) -/

theorem Engine.passOn_of_no_scan {e : Engine} (no_scan : e.scan = none) : e.passOn = { e with work := .none } := by
  obtain ⟨⟩ := e
  cases no_scan
  rfl

theorem Engine.passOn_of_scan {e : Engine} {q : ScanPos} (scan : e.scan = some q) :
    e.passOn =
      { e with work := .none, scan := if q.seen < 7 then some { base := q.base, seen := q.seen + 1 } else none } := by
  simp only [Engine.passOn, scan]
  exact congrArg (fun x => { e with work := .none, scan := x }) (if_congr Nat.succ_lt_succ_iff rfl rfl)

/-- The ten kinds in the order of their numbers (R183). -/
theorem kindOf_eq (w : Word) :
    kindOf w =
      if w.toNat = 0 then none
      else
        [Kind.loadContext, .switchContext, .armPen, .disarmPen, .moveCross, .calibratePen, .setMenuPage, .holdHead,
          .releaseHead, .readCounters][w.toNat - 1]? := by
  unfold kindOf
  generalize w.toNat = n
  by_cases small : n ≤ 10
  · interval_cases n <;> rfl
  · obtain ⟨m, rfl⟩ : ∃ m, n = m + 11 := ⟨n - 11, by omega⟩
    rfl

/-- The end of a TAKEN write with a bus error, for every kind of request (R172). -/
theorem State.takenEnd_busError {s : State} {k : Option Kind} {slot : SlotNo} {ws : List Word} (taking : s.takenInFlight k slot ws)
    (serve : State → SlotNo → List Word → State) :
    s.takenEnd k .busError serve = ((s.setPort none).note .fault).passOn.grant := by
  obtain ⟨⟨w, kind_eq, flying⟩, work⟩ := taking
  have is_taken : isTaken k (.taken w) = true := decide_eq_true kind_eq
  have held : ((s.setPort none).note .fault).engine.work = .taking slot ws := work
  rw [State.takenEnd, State.accessEnd_of_flight flying is_taken]
  · simp only [decide_true, if_true, held]
  · intro t idle
    split <;> rfl

theorem exec_request_busError {s : State} {k : Option Kind} {slot : SlotNo} {ws : List Word} (taking : s.takenInFlight k slot ws) :
    exec (requestCommand k .busError) s = .next ((s.setPort none).note .fault).passOn.grant := by
  cases k with
  | none => exact congrArg Host.Outcome.next (State.takenEnd_busError taking _)
  | some kind => cases kind <;> exact congrArg Host.Outcome.next (State.takenEnd_busError taking _)

/-- Settles O30: each end of the engine's dealing with a slot. -/
theorem requestAnsweredOrAbandoned : Obligations.RequestAnsweredOrAbandoned := by
  refine ⟨fun _ _ _ _ => rfl, fun _ => rfl, fun _ => Engine.passOn_of_no_scan, fun _ _ => Engine.passOn_of_scan, kindOf_eq,
    fun k slot ws s taking => ⟨fun no_kind => ?_, exec_request_busError taking⟩⟩
  subst no_kind
  exact exec_request taking

/-! ## Results (R174) -/

section
variable {s : State} {k : Nat} {r : Result} {rest : List Result}

theorem resultWrite_eq (regs : Regs) (r : Result) (small : k ≤ 2) :
    resultWrite regs r k =
      { purpose := .resultWord k, delivery := .live
        addr := regs.anchor.toNat * 256 + 16 * r.slot.val + (if k = 0 then 2 else if k = 1 then 3 else 0)
        data := some (if k = 0 then r.code else if k = 1 then r.value else if r.code = 0 then 3 else 4) } := by
  interval_cases k <;> rfl

theorem exec_resultWordWritten_done (flying : s.inFlight (.resultWord k)) :
    exec (.resultWordWritten .done) s = .next ((s.setPort none).resultWritten k).grant :=
  congrArg Host.Outcome.next (State.accessEnd_of_flight flying rfl false fun t idle =>
    Completion.mode (.resultWritten k) t idle)

theorem exec_resultWordWritten_busError (flying : s.inFlight (.resultWord k)) :
    exec (.resultWordWritten .busError) s =
      .next (((s.setPort none).note .fault).setEngine s.engine.dropResult).grant :=
  congrArg Host.Outcome.next (State.accessEnd_of_flight flying rfl true fun t idle =>
    Completion.mode (.resultDropped (.resultWord k)) t idle)

theorem Engine.dropResult_of_front {e : Engine} (front : e.results = r :: rest) :
    e.dropResult =
      { e with results := rest, resultStep := 0, outstanding := e.outstanding.filter (fun x => x != r.slot) } := by
  simp only [Engine.dropResult, front]

theorem State.resultWritten_more (more : k < 2) :
    s.resultWritten k = { s with engine := { s.engine with resultStep := k + 1 } } := if_pos more

theorem State.resultWritten_last : s.resultWritten 2 = (s.setEngine s.engine.dropResult).note .request := if_neg (by decide)

end

/-- Settles O42: the waiting write, the end of each of the three and a bus error. -/
theorem resultWordTaken : Obligations.ResultWordTaken := by
  refine ⟨fun r rest s front small => ?_, fun k r rest s small flying front => ⟨fun more => ?_, fun last => ?_, ?_⟩⟩
  · simp only [State.engineWaits, front]
    exact congrArg some (resultWrite_eq s.regs r small)
  · exact (exec_resultWordWritten_done flying).trans
      (congrArg (fun t : State => Host.Outcome.next t.grant) (State.resultWritten_more (s := s.setPort none) more))
  · subst last
    rw [exec_resultWordWritten_done flying, State.resultWritten_last, State.setPort_engine, Engine.dropResult_of_front front]
    rfl
  · rw [exec_resultWordWritten_busError flying, Engine.dropResult_of_front front]
    rfl

end Sys2Proof.Machine
end

section
/-! PROOF. The grant by class, the writes of a cross centre and of a button's state (R126, R132, R178). -/

namespace Sys2Proof.Machine

open Sys2Proof

/-! ## The grant (R178) -/

/-- Of the pens, the lowest that waits is found first. -/
theorem findPen_of_lowest {f : Pen → Option Access} {p : Pen} {a : Access} (waits : f p = some a)
    (lowest : ∀ q, penNumber q < penNumber p → f q = none) : allPens.findSome? f = some a := by
  have below : ∀ q, penNumber q < penNumber p → f q = none := lowest
  cases p with
  | p0 => simp only [allPens, List.findSome?_cons, waits]
  | p1 => simp only [allPens, List.findSome?_cons, below .p0 (by decide), waits]
  | p2 => simp only [allPens, List.findSome?_cons, below .p0 (by decide), below .p1 (by decide), waits]
  | p3 => simp only [allPens, List.findSome?_cons, below .p0 (by decide), below .p1 (by decide), below .p2 (by decide), waits]

theorem findPen_of_none {f : Pen → Option Access} (none_waits : ∀ q, f q = none) : allPens.findSome? f = none :=
  List.findSome?_eq_none_iff.2 fun q _ => none_waits q

section
variable {s : State} {a : Access}

theorem State.grant_of_flying (busy : s.port ≠ none) : s.grant = s := by
  unfold State.grant
  split
  case h_1 => rfl
  case h_2 idle => exact absurd idle busy

theorem State.grant_of_none_waits (idle : s.port = none) (waits : s.firstWaiting = none) : s.grant = s := by
  unfold State.grant
  rw [idle, waits]

/-- The access that waits first is granted; a snapshot's value is taken at the grant (R177, R178). -/
theorem State.grant_of_firstWaiting (idle : s.port = none) (waits : s.firstWaiting = some a) :
    s.grant =
      if a.purpose = .snapshotWord then { s with port := some a }.takeSnapshotWord else { s with port := some a } := by
  unfold State.grant
  rw [idle, waits]
  rfl

theorem State.grant_of_other_first (idle : s.port = none) (waits : s.firstWaiting = some a) (other : a.purpose ≠ .snapshotWord) :
    s.grant = { s with port := some a } := (State.grant_of_firstWaiting idle waits).trans (if_neg other)

theorem State.firstWaiting_of_centre {p : Pen} (waits : s.centreWaits p = some a)
    (lowest : ∀ q, penNumber q < penNumber p → s.centreWaits q = none) : s.firstWaiting = some a := by
  rw [State.firstWaiting, findPen_of_lowest waits lowest]
  rfl

variable (no_centre : ∀ q, s.centreWaits q = none)
include no_centre

theorem State.firstWaiting_of_report {p : Pen} (waits : s.reportWaits p = some a)
    (lowest : ∀ q, penNumber q < penNumber p → s.reportWaits q = none) : s.firstWaiting = some a := by
  rw [State.firstWaiting, findPen_of_none no_centre, findPen_of_lowest waits lowest]
  rfl

variable (no_report : ∀ q, s.reportWaits q = none)
include no_report

theorem State.firstWaiting_of_menu {h : Head} (waits : s.menuWaits h = some a)
    (lowest : h = .B → s.menuWaits .A = none) : s.firstWaiting = some a := by
  have found : [Head.A, Head.B].findSome? s.menuWaits = some a := by
    cases h with
    | A => simp only [List.findSome?_cons, waits]
    | B => simp only [List.findSome?_cons, lowest rfl, waits]
  rw [State.firstWaiting, findPen_of_none no_centre, findPen_of_none no_report, found]
  rfl

theorem State.firstWaiting_of_engine (no_menu : ∀ h, s.menuWaits h = none) : s.firstWaiting = s.engineWaits := by
  have none_found : [Head.A, Head.B].findSome? s.menuWaits = none := List.findSome?_eq_none_iff.2 fun h _ => no_menu h
  rw [State.firstWaiting, findPen_of_none no_centre, findPen_of_none no_report, none_found]
  rfl

end

section
variable {s : State} {a : Access}

theorem State.centreWaits_not_snapshot {p : Pen} (waits : s.centreWaits p = some a) : a.purpose ≠ .snapshotWord := by
  obtain ⟨second, purpose⟩ := State.centreWaits_purpose waits
  rw [purpose]
  exact fun same => by cases same

theorem headerWrite_not_snapshot (p : Pen) (r : ReportPath) (addr k : Nat) : (headerWrite p r addr k).purpose ≠ .snapshotWord := by
  unfold headerWrite
  split <;> exact fun same => by cases same

theorem State.reportWaits_not_snapshot {p : Pen} (waits : s.reportWaits p = some a) : a.purpose ≠ .snapshotWord := by
  have state_read : ∀ addr, (pageStateRead p addr).purpose ≠ .snapshotWord := fun _ same => by cases same
  cases pages : (s.report p).pages with
  | none => simp only [State.reportWaits, pages, reduceCtorEq] at waits
  | some pg =>
    cases out : (s.report p).out <;> simp only [State.reportWaits, pages, out, reduceCtorEq] at waits
    case taking => exact Option.some.inj waits ▸ state_read _
    case owned =>
      obtain ⟨c, -, rfl⟩ := Option.map_eq_some_iff.1 waits
      exact fun same => by cases same
    case turning =>
      split at waits <;> cases waits
      case isTrue => exact headerWrite_not_snapshot _ _ _ _
      case isFalse => exact state_read _
    case stalled =>
      split at waits <;> cases waits
      exact state_read _

theorem State.menuWaits_not_snapshot {h : Head} (waits : s.menuWaits h = some a) : a.purpose ≠ .snapshotWord := by
  rcases State.menuWaits_purpose waits with purpose | ⟨i, v, purpose⟩ <;> rw [purpose] <;> exact fun same => by cases same

end

/-- Settles O43: class by class, and in a class the lowest. -/
theorem grantByClass : Obligations.GrantByClass := by
  refine fun s => ⟨State.grant_of_flying, State.grant_of_none_waits, fun p a idle waits lowest => ?_,
    fun p a idle no_centre waits lowest => ?_, fun h a idle no_centre no_report waits lowest => ?_,
    fun a idle no_centre no_report no_menu waits other => ?_⟩
  · exact State.grant_of_other_first idle (State.firstWaiting_of_centre waits lowest) (State.centreWaits_not_snapshot waits)
  · exact State.grant_of_other_first idle (State.firstWaiting_of_report no_centre waits lowest) (State.reportWaits_not_snapshot waits)
  · exact State.grant_of_other_first idle (State.firstWaiting_of_menu no_centre no_report waits lowest)
      (State.menuWaits_not_snapshot waits)
  · exact State.grant_of_other_first idle ((State.firstWaiting_of_engine no_centre no_report no_menu).trans waits) other

/-! ## A cross centre (R132) -/

section
variable {s : State} {p : Pen} {second : Bool}

theorem State.centreWaits_of_raised {block : Nat} (fenced : (s.pen p).opts.block = some block)
    (raised : (s.pen p).track.centre ≠ .idle) :
    s.centreWaits p =
      some
        { purpose := .centreWord p (s.pen p).track.second
          addr := if (s.pen p).track.second then block + 1 else block
          data := some (BitVec.ofNat 16 (if (s.pen p).track.second then (s.pen p).track.cy else (s.pen p).track.cx))
          delivery := .live } := by
  cases centre : (s.pen p).track.centre with
  | idle => exact absurd centre raised
  | writing => simp only [State.centreWaits, centre, fenced, wordOf]
  | writingAgain => simp only [State.centreWaits, centre, fenced, wordOf]

/-- The centre-write state after a pair, written or given up (R132). -/
def Tracking.pairEnded (t : Tracking) : Tracking :=
  { t with centre := if t.centre = .writingAgain then .writing else .idle, second := false }

theorem Tracking.centreWritten_second (t : Tracking) : t.centreWritten true = t.pairEnded := by
  unfold Tracking.centreWritten Tracking.pairEnded
  cases t.centre <;> rfl

theorem Tracking.centreFailed_eq (t : Tracking) : t.centreFailed = t.pairEnded := by
  unfold Tracking.centreFailed Tracking.pairEnded
  cases t.centre <;> rfl

theorem exec_centreWordWritten_done (flying : s.inFlight (.centreWord p second)) :
    exec (.centreWordWritten .done) s =
      .next ((s.setPort none).setPen p { s.pen p with track := (s.pen p).track.centreWritten second }).grant :=
  congrArg Host.Outcome.next (State.accessEnd_of_flight flying rfl false fun t idle =>
    Completion.mode (.centreWritten p second) t idle)

theorem exec_centreWordWritten_busError (flying : s.inFlight (.centreWord p second)) :
    exec (.centreWordWritten .busError) s =
      .next (((s.setPort none).note .fault).setPen p { s.pen p with track := (s.pen p).track.centreFailed }).grant :=
  congrArg Host.Outcome.next (State.accessEnd_of_flight flying rfl true fun t idle =>
    Completion.mode (.centreFailed p second) t idle)

/-- The end of an access whose requester has ended its work, where no stop waits for it (R162). -/
theorem State.accessEnd_of_ended {a : Access} (port : s.port = some a) (ended : a.delivery = .ended)
    (going : s.regs.stopping = false) {mine : Purpose → Bool} (is_mine : mine a.purpose = true) (failed : Bool)
    (live : Purpose → State → State) (silent : ∀ t : State, t.endedEffect a.purpose = t) :
    s.accessEnd mine failed live = (if failed then (s.setPort none).note .fault else s.setPort none).grant := by
  have ends : s.endAccess a failed (live a.purpose) = if failed then (s.setPort none).note .fault else s.setPort none := by
    simp only [State.endAccess, ended, silent]
  have going_on : (s.endAccess a failed (live a.purpose)).regs.stopping = false := by
    rw [ends]
    cases failed <;> exact going
  simp only [State.accessEnd, port, is_mine, if_true]
  rw [State.finishStop_of_not_stopping going_on, ends]

end

/-- Settles O44: the waiting write, each end of a live one, and an ended one. -/
theorem centreWordTaken : Obligations.CentreWordTaken := by
  refine fun p s => ⟨fun block => State.centreWaits_of_raised, fun flying => ?_, fun flying => ?_, fun second flying => ?_,
    fun a second port purpose ended going => ⟨?_, ?_⟩⟩
  · exact exec_centreWordWritten_done flying
  · rw [exec_centreWordWritten_done flying, Tracking.centreWritten_second]
    rfl
  · rw [exec_centreWordWritten_busError flying, Tracking.centreFailed_eq]
    rfl
  · exact congrArg Host.Outcome.next (State.accessEnd_of_ended port ended going (by rw [purpose]; rfl) false _
      fun t => by rw [purpose]; rfl)
  · exact congrArg Host.Outcome.next (State.accessEnd_of_ended port ended going (by rw [purpose]; rfl) true _
      fun t => by rw [purpose]; rfl)

/-! ## A button's state (R126) -/

section
variable {s : State} {h : Head} {i : Nat} {v : Bool} {btn : Button}

theorem MenuUnit.stateOf_of_button {m : MenuUnit} (found : m.table[i]? = some btn) : m.stateOf i = btn.state := by
  simp only [MenuUnit.stateOf, found]

theorem State.menuWaits_of_dirty {rest : List Nat} {c : CurrentPage} (dirty : (s.menu h).dirty = i :: rest)
    (current : (s.menu h).current = some c) :
    s.menuWaits h =
      some
        { purpose := .writeBack h i ((s.menu h).stateOf i), addr := c.addr + 4 + 4 * i
          data := some (wordOf (bit ((s.menu h).stateOf i))), delivery := .live } := by
  simp only [State.menuWaits, dirty, current]

theorem wordOf_bit (b : Bool) : wordOf (bit b) = if b then 1 else 0 := by cases b <;> rfl

theorem exec_writeBackDone_done (flying : s.inFlight (.writeBack h i v)) :
    exec (.writeBackDone .done) s = .next ((s.setPort none).setMenu h ((s.menu h).writtenBack i v)).grant :=
  congrArg Host.Outcome.next (State.accessEnd_of_flight flying rfl false fun t idle =>
    Completion.mode (.writtenBack h i v) t idle)

theorem exec_writeBackDone_busError (flying : s.inFlight (.writeBack h i v)) :
    exec (.writeBackDone .busError) s =
      .next (((s.setPort none).note .fault).setMenu h ((s.menu h).writeBackFailed i)).grant :=
  congrArg Host.Outcome.next (State.accessEnd_of_flight flying rfl true fun t idle =>
    Completion.mode (.writeBackFailed h i v) t idle)

theorem State.setMenu_self (s : State) (h : Head) : s.setMenu h (s.menu h) = s := by
  obtain ⟨⟩ := s
  cases h <;> rfl

theorem State.writtenBack_eq (s : State) (found : (s.menu h).table[i]? = some btn) :
    s.setMenu h ((s.menu h).writtenBack i v) =
      { s with
        menus :=
          if btn.state = v then s.menus.set h { s.menu h with dirty := (s.menu h).dirty.filter (fun j => j != i) }
          else s.menus } := by
  rw [MenuUnit.writtenBack, MenuUnit.stateOf_of_button found]
  by_cases same : btn.state = v
  · rw [if_pos same, if_pos same]
    rfl
  · rw [if_neg same, if_neg same]
    exact s.setMenu_self h

end

/-- Settles O45: the waiting write and its ends. -/
theorem writeBackTaken : Obligations.WriteBackTaken := by
  refine ⟨fun h i rest c btn s dirty current found => ?_, fun h i v btn s flying found => ⟨?_, ?_⟩⟩
  · rw [State.menuWaits_of_dirty dirty current, MenuUnit.stateOf_of_button found, wordOf_bit]
  · exact (exec_writeBackDone_done flying).trans
      (congrArg (fun t : State => Host.Outcome.next t.grant) ((s.setPort none).writtenBack_eq found))
  · exact exec_writeBackDone_busError flying

end Sys2Proof.Machine
end

section
/-! PROOF. READ COUNTERS: its check, its 64 writes, and what each takes and clears (R177, R187). -/

namespace Sys2Proof.Machine

open Sys2Proof

/-! ## The request and its writes (R177) -/

section
variable {s : State} {slot : SlotNo} {addr k : Nat} {clear : Bool} {hi : Word}

theorem State.doReadCounters_eq (s : State) (slot : SlotNo) (ws : List Word) :
    s.doReadCounters slot ws =
      if 4194303 < (arg ws 5).toNat * 65536 + (arg ws 4).toNat + 63 then s.reply slot 2 0
      else
        s.work (.snapshot slot ((arg ws 5).toNat * 65536 + (arg ws 4).toNat) ((arg ws 6).getLsbD 0) 0 0) := by
  simp only [State.doReadCounters, addrOf_eq]
  exact if_congr (not_inSpace_iff _ _) rfl rfl

theorem exec_snapshotWordWritten_done (flying : s.inFlight .snapshotWord) :
    exec (.snapshotWordWritten .done) s = .next (s.setPort none).snapshotWritten.grant :=
  congrArg Host.Outcome.next (State.accessEnd_of_flight flying (decide_eq_true rfl) false fun t idle =>
    Completion.mode .snapshotWritten t idle)

theorem exec_snapshotWordWritten_busError (flying : s.inFlight .snapshotWord) :
    exec (.snapshotWordWritten .busError) s = .next ((s.setPort none).note .fault).snapshotFailed.grant :=
  congrArg Host.Outcome.next (State.accessEnd_of_flight flying (decide_eq_true rfl) true fun t idle =>
    Completion.mode .snapshotFailed t idle)

variable (taking : s.engine.work = .snapshot slot addr clear k hi)
include taking

theorem State.snapshotWritten_of_work :
    s.snapshotWritten =
      if k < 63 then s.work (.snapshot slot addr clear (k + 1) hi) else s.reply slot 0 0 := by
  simp only [State.snapshotWritten, taking]
  exact if_congr Nat.succ_lt_succ_iff rfl rfl

theorem State.snapshotFailed_of_work : s.snapshotFailed = s.reply slot 11 (BitVec.ofNat 16 k) := by
  simp only [State.snapshotFailed, taking]
  rfl

theorem State.engineWaits_of_snapshot (no_results : s.engine.results = []) :
    s.engineWaits =
      some { purpose := .snapshotWord, addr := addr + k, data := some (snapshotValue s k hi), delivery := .live } := by
  simp only [State.engineWaits, no_results, State.workWaits, taking]

/-! ## What a grant takes (R177, R187) -/

omit taking in
theorem State.work_self {w : Work} (working : s.engine.work = w) : s.work w = s := by
  subst working
  rfl

theorem State.takeSnapshotWord_of_work :
    s.takeSnapshotWord =
      (if clear then s.clearSnapshot k else s).work (.snapshot slot addr clear k (snapshotHigh s k hi)) := by
  simp only [State.takeSnapshotWord, taking]

theorem State.takeSnapshotWord_of_head {h : Head} {j : Nat} (place : snapshotPlace k = (.inl h, j)) :
    s.takeSnapshotWord =
      { s with
        heads := if clear then s.heads.set h ((s.head h).clearAt j) else s.heads
        engine :=
          { s.engine with
            work := .snapshot slot addr clear k (if j = 3 then BitVec.ofNat 16 ((s.head h).frame.toNat / 65536) else hi) } } := by
  have high : snapshotHigh s k hi = if j = 3 then BitVec.ofNat 16 ((s.head h).frame.toNat / 65536) else hi := by
    unfold snapshotHigh
    rw [place]
    split
    case h_1 at_place => 
      cases at_place
      rw [if_pos rfl, hiWord_eq]
    case h_2 other => rw [if_neg fun same => other h (by rw [same])]
  have cleared : s.clearSnapshot k = s.setHead h ((s.head h).clearAt j) := by
    unfold State.clearSnapshot
    rw [place]
  rw [State.takeSnapshotWord_of_work taking, high, cleared]
  cases clear <;> rfl

theorem State.takeSnapshotWord_of_pen {p : Pen} {j : Nat} (place : snapshotPlace k = (.inr p, j)) :
    s.takeSnapshotWord =
      { s with pens := if clear then s.pens.set p ((s.pen p).clearAt j) else s.pens } := by
  have high : snapshotHigh s k hi = hi := by
    unfold snapshotHigh
    rw [place]
  have cleared : s.clearSnapshot k = s.setPen p ((s.pen p).clearAt j) := by
    unfold State.clearSnapshot
    rw [place]
  rw [State.takeSnapshotWord_of_work taking, high, cleared, State.work_self]
  · cases clear <;> rfl
  · cases clear <;> exact taking

end

/-! ## The places and the values of the words (R187) -/

theorem snapshotPlace_of_head {h : Head} {j : Nat} (small : j < 8) : snapshotPlace (8 * headNumber h + j) = (.inl h, j) := by
  interval_cases j <;> cases h <;> rfl

theorem snapshotPlace_of_pen {p : Pen} {j : Nat} (small : j < 12) : snapshotPlace (16 + 12 * penNumber p + j) = (.inr p, j) := by
  interval_cases j <;> cases p <;> rfl

theorem snapshotValue_of_head (s : State) {h : Head} {j : Nat} (small : j < 8) (hi : Word) :
    snapshotValue s (8 * headNumber h + j) hi = headSnapshot s h j hi := by
  unfold snapshotValue
  rw [snapshotPlace_of_head small]

theorem snapshotValue_of_pen (s : State) {p : Pen} {j : Nat} (small : j < 12) (hi : Word) :
    snapshotValue s (16 + 12 * penNumber p + j) hi = penSnapshotAt s p j := by
  unfold snapshotValue
  rw [snapshotPlace_of_pen small]

theorem headNumber_eq (h : Head) : headNumber h = if decide (h = .B) then 1 else 0 := by cases h <;> rfl

/-- Settles O41: the request, the writes, and word by word what is written and cleared. -/
theorem countersRead : Obligations.CountersRead := by
  refine ⟨fun slot ws s taking => ?_, fun slot addr k clear hi s flying taking => ⟨?_, ?_⟩, fun slot addr k clear hi s taking => ?_⟩
  · exact (exec_request taking).trans
      (congrArg (fun t : State => Host.Outcome.next t.grant) ((s.taken slot).doReadCounters_eq slot ws))
  · exact (exec_snapshotWordWritten_done flying).trans
      (congrArg (fun t : State => Host.Outcome.next t.grant) (State.snapshotWritten_of_work (s := s.setPort none) taking))
  · exact (exec_snapshotWordWritten_busError flying).trans
      (congrArg (fun t : State => Host.Outcome.next t.grant)
        (State.snapshotFailed_of_work (s := (s.setPort none).note .fault) taking))
  intro word one slotCode headWord penWord access
  have head_value : ∀ h j, j < 8 → headSnapshot s h j hi = headWord h j := by
    intro h j small
    interval_cases j
    on_goal 4 => exact loWord_eq _
    all_goals rfl
  have pen_value : ∀ p j, j < 12 → penSnapshotAt s p j = penWord p j := by
    intro p j small
    interval_cases j
    · dsimp only [penSnapshotAt, penSnapshot, penWord, word, one]
      rw [headNumber_eq]
      rcases (s.pen p).lastUnmatched with _ | ⟨_ | _ | _ | _, frame⟩ <;> rfl
    on_goal 9 =>
      dsimp only [penSnapshotAt, penWord]
      rcases (s.pen p).lastUnmatched with _ | ⟨reason, frame⟩
      · rfl
      · exact loWord_eq frame
    all_goals rfl
  refine ⟨fun h j at_k small => ⟨fun no_results => ?_, fun idle waits => ?_⟩,
    fun p j at_k small => ⟨fun no_results => ?_, fun idle waits => ?_⟩⟩
  · rw [State.engineWaits_of_snapshot taking no_results]
    subst at_k
    rw [snapshotValue_of_head s small, head_value h j small]
  · subst at_k
    refine (State.grant_of_firstWaiting idle waits).trans ((if_pos rfl).trans ?_)
    refine (State.takeSnapshotWord_of_head (s := { s with port := some _ }) taking (snapshotPlace_of_head small)).trans ?_
    rfl
  · rw [State.engineWaits_of_snapshot taking no_results]
    subst at_k
    rw [snapshotValue_of_pen s small, pen_value p j small]
  · subst at_k
    refine (State.grant_of_firstWaiting idle waits).trans ((if_pos rfl).trans ?_)
    refine (State.takeSnapshotWord_of_pen (s := { s with port := some _ }) taking (snapshotPlace_of_pen small)).trans ?_
    rfl

end Sys2Proof.Machine
end

section
/-! PROOF. The words of a page load: the table they make, and what each phase does with its word (R110, R111, R185). -/

namespace Sys2Proof.Machine

open Sys2Proof

/-! ## Button words (R111, R185) -/

/-- The button of index `i` that words define. -/
def readButton (words : List Word) (i : Nat) : Option Button :=
  buttonOf (words[4 * i]?.getD 0) (words[4 * i + 1]?.getD 0) (words[4 * i + 2]?.getD 0) (words[4 * i + 3]?.getD 0)

theorem readButton_succ (tag kind action state : Word) (rest : List Word) (i : Nat) :
    readButton (tag :: kind :: action :: state :: rest) (i + 1) = readButton rest i := rfl

/-- A button may follow the buttons `seen` in a table (R111). -/
def Button.follows (b : Button) (seen : List Button) : Prop :=
  b.tag ≤ 1983 ∧ (∀ c ∈ seen, c.tag ≠ b.tag) ∧ (b.kind = .page → b.target < 16)

/-- The words define the buttons `new`, which may follow `seen` one after another. -/
def definesAfter (seen : List Button) (words : List Word) (new : List Button) : Prop :=
  words.length = 4 * new.length ∧
  ∀ i b, new[i]? = some b → readButton words i = some b ∧ b.follows (seen ++ new.take i)

theorem definesAfter_nil_iff (seen new : List Button) : definesAfter seen [] new ↔ new = [] := by
  constructor
  · rintro ⟨length, -⟩
    exact List.length_eq_zero_iff.1 (by rw [List.length_nil] at length; omega)
  · rintro rfl
    exact ⟨rfl, fun i b found => by cases found⟩

theorem definesAfter_cons_iff (seen new : List Button) (tag kind action state : Word) (rest : List Word) :
    definesAfter seen (tag :: kind :: action :: state :: rest) new ↔
      ∃ b more, new = b :: more ∧ buttonOf tag kind action state = some b ∧ b.follows seen ∧
        definesAfter (seen ++ [b]) rest more := by
  constructor
  · rintro ⟨length, buttons⟩
    cases new with
    | nil => cases length
    | cons b more =>
      obtain ⟨read, follows⟩ := buttons 0 b rfl
      rw [List.take_zero, List.append_nil] at follows
      refine ⟨b, more, rfl, read, follows, ?_, fun i c found => ?_⟩
      · simp only [List.length_cons] at length
        omega
      · obtain ⟨read, follows⟩ := buttons (i + 1) c found
        rw [List.take_succ_cons, List.append_cons] at follows
        exact ⟨read, follows⟩
  · rintro ⟨b, more, rfl, read, follows, length, buttons⟩
    refine ⟨?_, fun i c found => ?_⟩
    · simp only [List.length_cons]
      omega
    · cases i with
      | zero =>
        cases found
        rw [List.take_zero, List.append_nil]
        exact ⟨read, follows⟩
      | succ i =>
        rw [List.take_succ_cons, List.append_cons]
        exact buttons i c found

theorem Button.refused_iff (b : Button) (seen : List Button) :
    (decide (1983 < b.tag) || seen.any (fun c => c.tag == b.tag) ||
      (decide (b.kind = .page) && decide (16 ≤ b.target))) = true ↔ ¬ b.follows seen := by
  simp only [Bool.or_eq_true, decide_eq_true_eq, List.any_eq_true, beq_iff_eq, Bool.and_eq_true, Button.follows, not_and_or,
    not_forall, not_le, not_lt, not_not, exists_prop, or_assoc]

/-- Which words make a table behind the buttons `seen`, and which one. -/
theorem buttonsOf_eq_some_iff (seen : List Button) (words : List Word) (table : List Button) :
    buttonsOf seen words = some table ↔ ∃ new, table = seen ++ new ∧ definesAfter seen words new := by
  fun_induction buttonsOf seen words with
  | case1 seen =>
    simp only [definesAfter_nil_iff, exists_eq_right, List.append_nil, Option.some.injEq]
    exact eq_comm
  | case2 seen tag kind action state rest unread =>
    simp only [definesAfter_cons_iff, unread, reduceCtorEq, false_and, and_false, exists_false]
  | case3 seen tag kind action state rest b read refused =>
    simp only [definesAfter_cons_iff, read, Option.some.injEq, reduceCtorEq, false_iff]
    rintro ⟨_, _, _, _, _, rfl, follows, _⟩
    exact (b.refused_iff seen).1 refused follows
  | case4 seen tag kind action state rest b read accepted ih =>
    have follows : b.follows seen := not_not.1 fun not_new => accepted ((b.refused_iff seen).2 not_new)
    rw [ih]
    simp only [definesAfter_cons_iff, read, Option.some.injEq]
    constructor
    · rintro ⟨more, rfl, defines⟩
      exact ⟨b :: more, (List.append_cons ..).symm, b, more, rfl, rfl, follows, defines⟩
    · rintro ⟨_, rfl, _, more, rfl, rfl, _, defines⟩
      exact ⟨more, List.append_cons .., defines⟩
  | case5 words seen not_empty not_four =>
    refine ⟨fun none_made => (by cases none_made), ?_⟩
    rintro ⟨new, -, length, -⟩
    rcases words with _ | ⟨a, _ | ⟨b, _ | ⟨c, _ | ⟨d, rest⟩⟩⟩⟩
    · exact absurd rfl not_empty
    · simp only [List.length_cons, List.length_nil] at length
      omega
    · simp only [List.length_cons, List.length_nil] at length
      omega
    · simp only [List.length_cons, List.length_nil] at length
      omega
    · exact absurd rfl (not_four a b c d rest)

theorem buttonKindOf_eq_some_iff (code : Nat) (k : ButtonKind) : buttonKindOf code = some k ↔ buttonKindCode k = code := by
  constructor
  · intro named
    unfold buttonKindOf at named
    split at named <;> cases named <;> rfl
  · rintro rfl
    cases k <;> rfl

theorem buttonOf_eq_some_iff (tag kind action state : Word) (b : Button) :
    buttonOf tag kind action state = some b ↔
      b.tag = tag.toNat ∧ buttonKindCode b.kind = kind.toNat % 16 ∧ b.group = kind.toNat / 16 % 8 ∧
      b.target = kind.toNat / 256 % 32 ∧ b.action = action ∧ b.state = decide (state.toNat ≠ 0) := by
  have set_state : decide (state ≠ 0) = decide (state.toNat ≠ 0) :=
    decide_eq_decide.2 (not_congr ⟨fun zero => (by rw [zero]; rfl), fun zero => BitVec.eq_of_toNat_eq zero⟩)
  have code : bits kind 3 0 = kind.toNat % 16 := bits_from_zero kind 3
  rw [buttonOf, Option.map_eq_some_iff, set_state, code]
  constructor
  · rintro ⟨k, named, rfl⟩
    exact ⟨rfl, (buttonKindOf_eq_some_iff _ k).1 named, rfl, rfl, rfl, rfl⟩
  · rintro ⟨tag_is, kind_is, group_is, target_is, action_is, state_is⟩
    obtain ⟨_, k, _, _, _, _⟩ := b
    dsimp only at tag_is kind_is group_is target_is action_is state_is
    subst tag_is group_is target_is action_is state_is
    exact ⟨k, (buttonKindOf_eq_some_iff _ k).2 kind_is, rfl⟩

theorem mem_take_iff {table : List Button} {i : Nat} {c : Button} :
    c ∈ table.take i ↔ ∃ j, j < i ∧ table[j]? = some c := by
  rw [List.mem_iff_getElem?]
  refine exists_congr fun j => ?_
  rw [List.getElem?_take]
  split
  case isTrue below => exact (and_iff_right below).symm
  case isFalse above => exact ⟨fun found => (by cases found), fun ⟨below, _⟩ => absurd below above⟩

/-- The table of a page's button words (R111, R185). -/
theorem buttonsOf_iff (words : List Word) (table : List Button) :
    buttonsOf [] words = some table ↔
      words.length = 4 * table.length ∧
      ∀ i b, table[i]? = some b →
        (b.tag = (words[4 * i]?.getD 0).toNat ∧ buttonKindCode b.kind = (words[4 * i + 1]?.getD 0).toNat % 16 ∧
          b.group = (words[4 * i + 1]?.getD 0).toNat / 16 % 8 ∧ b.target = (words[4 * i + 1]?.getD 0).toNat / 256 % 32 ∧
          b.action = words[4 * i + 2]?.getD 0 ∧ b.state = decide ((words[4 * i + 3]?.getD 0).toNat ≠ 0)) ∧
        b.tag ≤ 1983 ∧ (∀ j c, j < i → table[j]? = some c → c.tag ≠ b.tag) ∧ (b.kind = .page → b.target < 16) := by
  rw [buttonsOf_eq_some_iff]
  simp only [List.nil_append, exists_eq_left', definesAfter, readButton, buttonOf_eq_some_iff, Button.follows, mem_take_iff]
  refine and_congr_right fun _ => forall_congr' fun i => forall_congr' fun b => imp_congr_right fun _ => and_congr_right fun _ =>
    and_congr_right fun _ => and_congr_left fun _ => ?_
  exact ⟨fun apart j c below found => apart c ⟨j, below, found⟩, fun apart c ⟨j, below, found⟩ => apart j c below found⟩

/-! ## The reads of a load (R109, R110) -/

section
variable {s : State} {h : Head} {l : PageLoad}

theorem State.menuWaits_of_load (clean : (s.menu h).dirty = []) (loading : (s.menu h).load = some l) :
    s.menuWaits h =
      some
        { purpose := .menuLoad h, data := none, delivery := .live
          addr := loadAddr s.regs h l (s.menu h).staging.length } := by
  simp only [State.menuWaits, clean, loading, Option.map_some]

theorem directoryAddr_eq (r : Regs) (h : Head) :
    directoryAddr r h = r.anchor.toNat * 256 + 128 + (if h = .A then 0 else 2) := by cases h <;> rfl

theorem exec_menuLoadRead_word (flying : s.inFlight (.menuLoad h)) (w : Word) :
    exec (.menuLoadRead (.word w)) s = .next ((s.setPort none).loadRead h w).grant :=
  congrArg Host.Outcome.next (State.accessEnd_of_flight flying rfl false fun t idle => Completion.mode (.loadRead h w) t idle)

theorem exec_menuLoadRead_busError (flying : s.inFlight (.menuLoad h)) :
    exec (.menuLoadRead .busError) s = .next (((s.setPort none).note .fault).loadBusError h).grant :=
  congrArg Host.Outcome.next (State.accessEnd_of_flight flying rfl true fun t idle => Completion.mode (.loadBusError h) t idle)

variable (loading : (s.menu h).load = some l) {w : Word}
include loading

theorem State.loadBusError_of_load : s.loadBusError h = s.loadFailed h l codeBusError .busError := by
  simp only [State.loadBusError, loading]

theorem State.loadRead_dirLow (phase : l.phase = .dirLow) : s.loadRead h w = s.loadPhase h l (.dirHigh w) := by
  simp only [State.loadRead, loading, phase]

theorem State.loadRead_dirHigh {lo : Word} (phase : l.phase = .dirHigh lo) :
    s.loadRead h w =
      if w.toNat * 65536 + lo.toNat + 31 ≤ 4194303 then s.loadPhase h l (.entryLow (w.toNat * 65536 + lo.toNat))
      else s.loadFailed h l 10 .badPage := by
  simp only [State.loadRead, loading, phase, addrOf_eq, inSpace_iff]
  rfl

theorem State.loadRead_entryLow {dir : Nat} (phase : l.phase = .entryLow dir) :
    s.loadRead h w = s.loadPhase h l (.entryHigh dir w) := by
  simp only [State.loadRead, loading, phase]

theorem State.loadRead_entryHigh {dir : Nat} {lo : Word} (phase : l.phase = .entryHigh dir lo) :
    s.loadRead h w =
      if w.toNat * 65536 + lo.toNat ≠ 0 ∧ w.toNat * 65536 + lo.toNat + 96 ≤ 4194303 then
        s.loadPhase h l (.count (w.toNat * 65536 + lo.toNat))
      else s.loadFailed h l 10 .badPage := by
  simp only [State.loadRead, loading, phase, addrOf_eq, inSpace_iff]
  rfl

theorem State.loadRead_count {addr : Nat} (phase : l.phase = .count addr) :
    s.loadRead h w =
      if 24 < w.toNat then s.loadFailed h l 10 .badPage
      else if w.toNat = 0 then s.loadDone h l addr []
      else s.loadPhase h l (.buttons addr w.toNat) := by
  simp only [State.loadRead, loading, phase]
  rfl

theorem State.loadRead_more {addr n : Nat} (phase : l.phase = .buttons addr n)
    (more : ((s.menu h).staging ++ [w]).length < 4 * n) :
    s.loadRead h w = s.setMenu h { s.menu h with staging := (s.menu h).staging ++ [w] } := by
  simp only [State.loadRead, loading, phase, if_pos more]

theorem State.loadRead_table {addr n : Nat} (phase : l.phase = .buttons addr n)
    (last : 4 * n ≤ ((s.menu h).staging ++ [w]).length) {table : List Button}
    (parsed : buttonsOf [] ((s.menu h).staging ++ [w]) = some table) : s.loadRead h w = s.loadDone h l addr table := by
  simp only [State.loadRead, loading, phase, if_neg (Nat.not_lt.2 last), parsed]

theorem State.loadRead_no_table {addr n : Nat} (phase : l.phase = .buttons addr n)
    (last : 4 * n ≤ ((s.menu h).staging ++ [w]).length) (bad : buttonsOf [] ((s.menu h).staging ++ [w]) = none) :
    s.loadRead h w = s.loadFailed h l 10 .badPage := by
  simp only [State.loadRead, loading, phase, if_neg (Nat.not_lt.2 last), bad]
  rfl

end

/-- Settles O46: the addresses, the table, and phase by phase what the word read does. -/
theorem menuLoadWordTaken : Obligations.MenuLoadWordTaken := by
  refine ⟨fun h l s clean loading => ?_, fun words table => ?_, fun h l w s flying loading => ?_⟩
  · refine (State.menuWaits_of_load clean loading).trans ?_
    cases phase : l.phase <;> simp only [loadAddr, phase, directoryAddr_eq]
  · refine (buttonsOf_iff words table).trans (and_congr_right fun _ => forall_congr' fun i => forall_congr' fun b =>
      imp_congr_right fun _ => ?_)
    refine ⟨fun ⟨⟨tag, kind, group, target, action, state⟩, fits⟩ =>
        ⟨tag, Eq.trans ?_ kind, group, target, action, state, fits⟩,
      fun ⟨tag, kind, group, target, action, state, fits⟩ =>
        ⟨⟨tag, Eq.trans ?_ kind, group, target, action, state⟩, fits⟩⟩ <;> cases b.kind <;> rfl
  intro m t goesOn bad
  have ends : ∀ {u : State}, t.loadRead h w = u → exec (.menuLoadRead (.word w)) s = .next u.grant := fun read =>
    (exec_menuLoadRead_word flying w).trans (congrArg (fun u : State => Host.Outcome.next u.grant) read)
  have held : (t.menu h).load = some l := loading
  refine ⟨fun phase => ends (State.loadRead_dirLow held phase), fun lo phase => ⟨fun fits => ?_, fun past => ?_⟩,
    fun dir phase => ends (State.loadRead_entryLow held phase), fun dir lo phase => ⟨fun fits => ?_, fun past => ?_⟩,
    fun addr phase => ⟨fun many => ?_, fun ⟨some_buttons, few⟩ => ?_, fun zero => ?_⟩, fun addr n phase => ⟨fun more => ?_, fun last => ⟨fun none_made => ?_, fun table parsed => ?_⟩⟩, ?_⟩
  · exact ends ((State.loadRead_dirHigh held phase).trans (if_pos fits))
  · exact ends ((State.loadRead_dirHigh held phase).trans (if_neg (Nat.not_le.2 past)))
  · exact ends ((State.loadRead_entryHigh held phase).trans (if_pos fits))
  · refine ends ((State.loadRead_entryHigh held phase).trans (if_neg fun ⟨nonzero, fits⟩ => ?_))
    exact past.elim nonzero (Nat.not_lt.2 fits)
  · exact ends ((State.loadRead_count held phase).trans (if_pos many))
  · exact ends ((State.loadRead_count held phase).trans
      ((if_neg (Nat.not_lt.2 few)).trans (if_neg (Nat.ne_of_gt some_buttons))))
  · subst zero
    exact ends ((State.loadRead_count held phase).trans ((if_neg (by decide)).trans (if_pos rfl)))
  · exact ends (State.loadRead_more held phase more)
  · exact ends (State.loadRead_no_table held phase last none_made)
  · exact ends (State.loadRead_table held phase last parsed)
  · exact (exec_menuLoadRead_busError flying).trans (congrArg (fun u : State => Host.Outcome.next u.grant)
      (State.loadBusError_of_load (s := (s.setPort none).note .fault) loading))

end Sys2Proof.Machine
end

section
/-! PROOF. How a page load ends (R112, R113, R124, R127). -/

namespace Sys2Proof.Machine

open Sys2Proof

/-! ## A change of the pens of a head -/

theorem State.setPen_pen (s : State) (p : Pen) : s.setPen p (s.pen p) = s := by
  obtain ⟨⟩ := s
  cases p <;> rfl

/-- A walk over the pens of a head that changes each pen by itself. -/
theorem State.forPensOn_own {f : State → Pen → State} {g : PenChannel → PenChannel} (own : ∀ t p, f t p = t.setPen p (g (t.pen p)))
    (s : State) (h : Head) :
    s.forPensOn h f = { s with pens := s.pens.map fun c => if c.opts.head = h then g c else c } := by
  have at_pen : (fun (t : State) p => if t.penHead p = h then f t p else t) = fun (t : State) p =>
      t.setPen p (if (t.pen p).opts.head = h then g (t.pen p) else t.pen p) := by
    funext t p
    rw [own, State.penHead]
    split
    case isTrue => rfl
    case isFalse => exact (t.setPen_pen p).symm
  rw [State.forPensOn, at_pen]
  rfl

/-- A pen whose run and lockout a completed load of its head's unit clears (R112). -/
def PenChannel.clearedBy (c : PenChannel) (h : Head) : PenChannel :=
  if c.opts.head = h ∧ c.state ≠ .disarmed then { c with run := none, lockout := none } else c

theorem State.clearRuns_eq (s : State) (h : Head) : s.clearRuns h = { s with pens := s.pens.map fun c => c.clearedBy h } := by
  have own : ∀ (t : State) p, (if (t.pen p).state = .disarmed then t else t.clearRun p) =
      t.setPen p (if (t.pen p).state = .disarmed then t.pen p else { t.pen p with run := none, lockout := none }) := by
    intro t p
    split
    case isTrue => exact (t.setPen_pen p).symm
    case isFalse => rfl
  have cleared : (fun c : PenChannel =>
      if c.opts.head = h then (if c.state = .disarmed then c else { c with run := none, lockout := none }) else c) =
      fun c => c.clearedBy h := by
    funext c
    rw [PenChannel.clearedBy, ite_and, ite_not]
  rw [State.clearRuns, State.forPensOn_own (g := fun c => if c.state = .disarmed then c else { c with run := none, lockout := none }) own,
    cleared]

/-! ## The answer of a load (R112, R113, R124, R127) -/

section
variable {s u : State} {h : Head} {l : PageLoad} {code : Word} {status : MenuStatus}

theorem State.answerLoad_of_setPage {slot : SlotNo} {clear : Bool} (origin : l.origin = .setPage slot clear) :
    s.answerLoad h l code status = s.answer slot code (wordOf l.page) := by
  simp only [State.answerLoad, origin]

theorem State.answerLoad_of_await {a : Await} (origin : l.origin = .pageButton (some a) ∨ l.origin = .backButton (some a)) :
    s.answerLoad h l code status =
      s.stage a.pen (.menu { a.record with page := (s.menu h).pageNumber, status := status }) := by
  rcases origin with origin | origin <;> simp only [State.answerLoad, origin]

theorem State.answerLoad_of_no_await (origin : l.origin = .pageButton none ∨ l.origin = .backButton none) :
    s.answerLoad h l code status = s := by
  rcases origin with origin | origin <;> simp only [State.answerLoad, origin]

variable (engine : u.engine = s.engine) (reports : u.reports = s.reports) (regs : u.regs = s.regs)

section
include reports regs

/-- What staging a record does depends on the paths and the notes alone. -/
theorem State.stage_of_same (p : Pen) (record : Record) :
    (u.stage p record).reports = (s.stage p record).reports ∧ (u.stage p record).regs = (s.stage p record).regs := by
  rw [State.stage_eq, State.stage_eq, State.report, State.report, State.putReport, State.putReport, reports]
  exact ⟨rfl, by rw [regs]⟩

end

include engine reports regs

/-- The answer of a load that has changed the unit and the pens of `s` alone. -/
theorem State.answerLoad_answers :
    (∀ slot clear, l.origin = .setPage slot clear →
      (u.answerLoad h l code status).engine =
        { s.engine with
          results := s.engine.results ++ [{ slot := slot, code := code, value := BitVec.ofNat 16 l.page }] } ∧
      (u.answerLoad h l code status).reports = s.reports ∧ (u.answerLoad h l code status).regs = s.regs) ∧
    (∀ a, l.origin = .pageButton (some a) ∨ l.origin = .backButton (some a) →
      let record : Record := .menu { a.record with page := (u.menu h).pageNumber, status := status }
      (u.answerLoad h l code status).engine = s.engine ∧
      (u.answerLoad h l code status).reports = (s.stage a.pen record).reports ∧
      (u.answerLoad h l code status).regs = (s.stage a.pen record).regs) ∧
    (l.origin = .pageButton none ∨ l.origin = .backButton none →
      (u.answerLoad h l code status).engine = s.engine ∧ (u.answerLoad h l code status).reports = s.reports ∧
      (u.answerLoad h l code status).regs = s.regs) := by
  refine ⟨fun slot clear origin => ?_, fun a origin => ?_, fun origin => ?_⟩
  · rw [State.answerLoad_of_setPage origin, ← engine]
    exact ⟨rfl, reports, regs⟩
  · rw [State.answerLoad_of_await origin]
    exact ⟨(show ((u.stage a.pen _).engine = u.engine) by simp).trans engine, State.stage_of_same reports regs _ _⟩
  · rw [State.answerLoad_of_no_await origin]
    exact ⟨engine, reports, regs⟩

end

/-! ## The unit after a load -/

/-- The unit as a failed load leaves it (R113). -/
def MenuUnit.unloaded (m : MenuUnit) (l : PageLoad) : MenuUnit := { m with stack := undoStack l m.stack, load := none, staging := [] }

theorem State.loadFailed_eq (s : State) (h : Head) (l : PageLoad) (code : Word) (status : MenuStatus) :
    s.loadFailed h l code status = (s.setMenu h ((s.menu h).unloaded l)).answerLoad h l code status := rfl

theorem MenuUnit.pageNumber_loaded (m : MenuUnit) (l : PageLoad) (addr : Nat) (table : List Button) :
    (m.loaded l addr table).pageNumber = l.page := rfl

theorem MenuUnit.pageNumber_unloaded {m : MenuUnit} {c : CurrentPage} (current : m.current = some c) (l : PageLoad) :
    (m.unloaded l).pageNumber = c.number := by
  simp only [MenuUnit.pageNumber, MenuUnit.unloaded, current]

theorem PageLoad.finalStack_eq (l : PageLoad) (stack : List Nat) :
    l.finalStack stack =
      match l.origin with
      | .setPage _ clear => if clear then [] else stack
      | .pageButton _ | .backButton _ => stack := by
  unfold PageLoad.finalStack
  rcases l.origin with ⟨slot, _ | _⟩ | a | a <;> rfl

/-- The state as a completed load leaves it, its answer apart (R112). -/
def State.loadedBy (s : State) (h : Head) (l : PageLoad) (addr : Nat) (table : List Button) : State :=
  (s.setMenu h ((s.menu h).loaded l addr table)).clearRuns h

section
variable (s : State) (h : Head) (l : PageLoad) (addr : Nat) (table : List Button)

theorem State.loadedBy_eq :
    s.loadedBy h l addr table =
      { s with
        menus := s.menus.set h ((s.menu h).loaded l addr table)
        pens := s.pens.map fun c => c.clearedBy h } := by
  rw [State.loadedBy, State.clearRuns_eq]
  rfl

theorem State.loadedBy_frame :
    (s.loadedBy h l addr table).heads = s.heads ∧ (s.loadedBy h l addr table).ctx = s.ctx ∧
    (s.loadedBy h l addr table).reports = s.reports ∧ (s.loadedBy h l addr table).engine = s.engine ∧
    (s.loadedBy h l addr table).port = s.port ∧ (s.loadedBy h l addr table).regs = s.regs ∧
    (s.loadedBy h l addr table).pending = s.pending := by
  rw [State.loadedBy_eq]
  exact ⟨rfl, rfl, rfl, rfl, rfl, rfl, rfl⟩

theorem State.menu_loadedBy : (s.loadedBy h l addr table).menu h = (s.menu h).loaded l addr table := by
  rw [State.loadedBy_eq]
  exact s.menus.get_set_self h _

theorem State.menu_loadedBy_of_ne {k : Head} (other : k ≠ h) : (s.loadedBy h l addr table).menu k = s.menu k := by
  rw [State.loadedBy_eq]
  exact s.menus.get_set_of_ne other _

theorem State.pen_loadedBy (p : Pen) : (s.loadedBy h l addr table).pen p = (s.pen p).clearedBy h := by
  rw [State.loadedBy_eq]
  exact s.pens.get_map _ p

end

theorem State.menu_answerLoad (s : State) (h k : Head) (l : PageLoad) (code : Word) (status : MenuStatus) :
    (s.answerLoad h l code status).menu k = s.menu k := by
  rw [State.menu, (s.answerLoad_frame h l code status).2.2.1]
  rfl

/-- Settles O47: both ends of a load. -/
theorem menuLoadEnds : Obligations.MenuLoadEnds := by
  intro h l s m
  constructor
  · intro addr table
    have ends : s.loadDone h l addr table = (s.loadedBy h l addr table).answerLoad h l codeOK .done :=
      s.loadDone_eq h l addr table
    dsimp only
    rw [ends]
    obtain ⟨heads', ctx', reports, engine, port', regs, pending'⟩ := s.loadedBy_frame h l addr table
    obtain ⟨heads, ctx, -, pens, port, pending⟩ := (s.loadedBy h l addr table).answerLoad_frame h l codeOK .done
    obtain ⟨set_page, awaited, dropped⟩ :=
      State.answerLoad_answers engine reports regs (h := h) (l := l) (code := codeOK) (status := .done)
    refine ⟨?_, fun k other => ?_, fun p => ?_, set_page, fun a origin => ?_, dropped, heads.trans heads', ctx.trans ctx',
      port.trans port', pending.trans pending'⟩
    · rw [State.menu_answerLoad, State.menu_loadedBy]
      exact congrArg (fun stack => { (s.menu h).loaded l addr table with stack := stack }) (l.finalStack_eq _)
    · rw [State.menu_answerLoad, State.menu_loadedBy_of_ne _ _ _ _ _ other]
    · rw [State.pen, pens]
      exact s.pen_loadedBy h l addr table p
    · have shown := awaited a origin
      rw [State.menu_loadedBy, MenuUnit.pageNumber_loaded] at shown
      exact shown
  · intro code status
    dsimp only
    rw [State.loadFailed_eq]
    obtain ⟨set_page, awaited, dropped⟩ := State.answerLoad_answers (s := s) (u := s.setMenu h ((s.menu h).unloaded l))
      rfl rfl rfl (h := h) (l := l) (code := code) (status := status)
    obtain ⟨heads, ctx, -, pens, port, pending⟩ := (s.setMenu h ((s.menu h).unloaded l)).answerLoad_frame h l code status
    refine ⟨?_, fun k other => ?_, pens, set_page, fun a cur origin current => ?_, dropped, heads, ctx, port, pending⟩
    · rw [State.menu_answerLoad, State.menu_setMenu, if_pos rfl]
      rfl
    · rw [State.menu_answerLoad, State.menu_setMenu, if_neg other]
    · have shown := awaited a origin
      rw [State.menu_setMenu, if_pos rfl, MenuUnit.pageNumber_unloaded current] at shown
      exact shown

end Sys2Proof.Machine
end

section
/-! PROOF. Tip changes, the release of a TRACK pen, and the closes of a pick window (R19, R77 to R79, R138). -/

namespace Sys2Proof.Machine

open Sys2Proof

/-! ## The tip switch (R19, R78, R138) -/

/-- The pen with its tip open. -/
def PenChannel.tipOpened (c : PenChannel) : PenChannel := { c with tipClosed := false }

/-- The pen after a release at the tracking state (R138). -/
def PenChannel.released (c : PenChannel) : PenChannel :=
  { c with track := { c.track.dropSums with fix := .noFix, miss := 0, rx := c.track.cx, ry := c.track.cy } }

section
variable {s : State} {p : Pen}

theorem State.tipOpens_of_not_armed (rests : (s.pen p).state ≠ .armed) : s.tipOpens p = s.setPen p (s.pen p).tipOpened := by
  cases state : (s.pen p).state with
  | armed => exact absurd state rests
  | disarmed => simp only [State.tipOpens, State.pen_setPen_self, PenChannel.tipOpened, state]
  | calibrating => simp only [State.tipOpens, State.pen_setPen_self, PenChannel.tipOpened, state]

theorem State.tipOpens_of_pick (armed : (s.pen p).state = .armed) (pick : (s.pen p).opts.mode = .pick) :
    s.tipOpens p = (s.setPen p (s.pen p).tipOpened).windowRelease p := by
  simp only [State.tipOpens, State.pen_setPen_self, PenChannel.tipOpened, armed, pick]

theorem State.tipOpens_of_track (armed : (s.pen p).state = .armed) (track : (s.pen p).opts.mode = .track) :
    s.tipOpens p = (s.setPen p (s.pen p).tipOpened).trackRelease p := by
  simp only [State.tipOpens, State.pen_setPen_self, PenChannel.tipOpened, armed, track]

/-- At the pick window a tip open decides where a GATED pen has entries, and else does nothing (R78). -/
theorem State.windowRelease_of_none (none_due : (s.pen p).opts.gated = false ∨ (s.pen p).window.table = []) :
    s.windowRelease p = s := by
  refine if_neg fun ⟨gated, entries⟩ => ?_
  rcases none_due with ungated | empty
  · rw [ungated] at gated
    cases gated
  · exact entries empty

theorem State.windowRelease_of_due (gated : (s.pen p).opts.gated = true) (entries : (s.pen p).window.table ≠ []) :
    s.windowRelease p = s.decision p .release (s.head (s.pen p).opts.head).frame := if_pos ⟨gated, entries⟩

theorem State.trackRelease_of_noFix (no_fix : (s.pen p).track.fix = .noFix) : s.trackRelease p = s := if_pos no_fix

theorem State.trackRelease_of_fix (fix : (s.pen p).track.fix ≠ .noFix) :
    s.trackRelease p =
      if (s.pen p).opts.single then
        ((s.stage p (s.trackRecord p true (s.head (s.pen p).opts.head).frame)).setPen p (s.pen p).released).disarm p
      else (s.stage p (s.trackRecord p true (s.head (s.pen p).opts.head).frame)).setPen p (s.pen p).released := by
  simp only [State.trackRelease, if_neg fix, State.pen_stage]
  rfl

/-- A TRACK record tells of the cross and the view alone. -/
theorem State.trackRecord_setPen {c : PenChannel} (cross : c.track = (s.pen p).track) (opts : c.opts = (s.pen p).opts)
    (final : Bool) (frame : Long) : (s.setPen p c).trackRecord p final frame = s.trackRecord p final frame := by
  have store : (s.setPen p c).activeCtx = s.activeCtx := rfl
  simp only [State.trackRecord, State.pen_setPen_self, cross, opts, store]

end

/-- Settles O17: by state, mode and cross. -/
theorem tipChangesAndTrackRelease : Obligations.TipChangesAndTrackRelease := by
  refine ⟨fun p s => ⟨rfl, fun no_release => ?_⟩, fun p s armed track fix => ?_⟩
  · refine congrArg (fun t : State => Host.Outcome.next t.grant) (show s.tipOpens p = s.setPen p (s.pen p).tipOpened from ?_)
    have opened : (s.setPen p (s.pen p).tipOpened).pen p = (s.pen p).tipOpened := s.pen_setPen_self p _
    by_cases armed : (s.pen p).state = .armed
    · rcases no_release with rests | ⟨pick, none_due⟩ | ⟨track, no_fix⟩
      · exact absurd armed rests
      · rw [State.tipOpens_of_pick armed pick]
        exact State.windowRelease_of_none (by rw [opened]; exact none_due)
      · rw [State.tipOpens_of_track armed track]
        exact State.trackRelease_of_noFix (by rw [opened]; exact no_fix)
    · exact State.tipOpens_of_not_armed armed
  · intro c record t
    have staged : ((s.setPen p c.tipOpened).stage p record).setPen p c.tipOpened.released = t := by
      rw [State.stage_setPen, State.setPen_setPen, State.setPen_of_pens (s.stage_pens p record)]
      rfl
    have told : (s.setPen p c.tipOpened).trackRecord p true (s.head c.opts.head).frame = record :=
      State.trackRecord_setPen (s := s) (p := p) (c := c.tipOpened) rfl rfl true _
    have opened : (s.setPen p c.tipOpened).pen p = c.tipOpened := s.pen_setPen_self p _
    have ends : s.tipOpens p = if c.opts.single then t.disarm p else t := by
      rw [State.tipOpens_of_track armed track, State.trackRelease_of_fix (by rw [opened]; exact fix), opened]
      rw [show ((s.setPen p c.tipOpened).head c.tipOpened.opts.head).frame = (s.head c.opts.head).frame from rfl, told, staged]
      rfl
    refine (congrArg (fun t : State => Host.Outcome.next t.grant) ends).trans (congrArg Host.Outcome.next ?_)
    exact apply_ite State.grant _ _ _

/-! ## The closes of a pick window (R77 to R79) -/

section
variable {s : State} {p : Pen} {ws : List Word} {frame : Long}

theorem hitInFrameBefore_iff (table : List Candidate) (frame : Long) :
    table.any (fun e => e.lastHit == prevFrame frame) = true ↔ ∃ e ∈ table, e.lastHit = frame - 1 := by
  simp only [List.any_eq_true, beq_iff_eq, prevFrame]

theorem State.closeAtBoundary_of_pick (armed : (s.pen p).state = .armed) (pick : (s.pen p).opts.mode = .pick) :
    s.closeAtBoundary p frame = s.decision p .boundary frame := if_pos ⟨armed, pick⟩

variable (active : s.activeCtx (s.pen p).opts.head = some ws)
include active

theorem State.idleJudgement_of_live
    (live : ctxIdle ws = 0 ∨ (s.pen p).window.table = [] ∨ ∃ e ∈ (s.pen p).window.table, e.lastHit = frame - 1) :
    s.idleJudgement p frame = s := by
  simp only [State.idleJudgement, active]
  rcases live with off | empty | ⟨e, mem, hit⟩
  · exact if_pos (.inl off)
  · exact if_pos (.inr empty)
  · split
    case isTrue => rfl
    case isFalse => exact if_pos ((hitInFrameBefore_iff _ frame).2 ⟨e, mem, hit⟩)

/-- A frame without a hit counts, and decides the window when the count reaches the idle length (R79). -/
theorem State.idleJudgement_of_idle (on : ctxIdle ws ≠ 0) (entries : (s.pen p).window.table ≠ [])
    (idle : ∀ e ∈ (s.pen p).window.table, e.lastHit ≠ frame - 1) :
    s.idleJudgement p frame =
      if (s.pen p).window.idle + 1 = ctxIdle ws then
        (s.setPen p { s.pen p with window := { (s.pen p).window with idle := (s.pen p).window.idle + 1 } }).decision p .idle frame
      else s.setPen p { s.pen p with window := { (s.pen p).window with idle := (s.pen p).window.idle + 1 } } := by
  have none_hit : ¬ (s.pen p).window.table.any (fun e => e.lastHit == prevFrame frame) = true := fun hit => by
    obtain ⟨e, mem, last⟩ := (hitInFrameBefore_iff _ frame).1 hit
    exact idle e mem last
  have due : ¬ (ctxIdle ws = 0 ∨ (s.pen p).window.table = []) := fun either => either.elim on entries
  simp only [State.idleJudgement, active, if_neg due, if_neg none_hit]

end

/-- Settles O19: each close at the pen's window. -/
theorem windowCloses : Obligations.WindowCloses := by
  refine fun p s armed pick => ⟨fun gated entries => ?_, fun frame => State.closeAtBoundary_of_pick armed pick,
    fun frame ws active => ⟨State.idleJudgement_of_live active, fun on entries idle => State.idleJudgement_of_idle active on entries idle⟩⟩
  have opened : (s.setPen p (s.pen p).tipOpened).pen p = (s.pen p).tipOpened := s.pen_setPen_self p _
  have ends : s.tipOpens p = (s.setPen p (s.pen p).tipOpened).decision p .release (s.head (s.pen p).opts.head).frame := by
    rw [State.tipOpens_of_pick armed pick,
      State.windowRelease_of_due (by rw [opened]; exact gated) (by rw [opened]; exact entries), opened]
    rfl
  exact congrArg (fun t : State => Host.Outcome.next t.grant) ends

end Sys2Proof.Machine
end

section
/-! PROOF. Pulses that are dropped or only counted, matched hits, and MENU hits (R20 to R23, R44, R47 to R53, R115, R116). -/

namespace Sys2Proof.Machine

open Sys2Proof

/-! ## Categories (R48, R49) -/

section
variable {tag cls pen : Nat} {mode : Mode}

theorem categoryOf_eq (tag cls pen : Nat) (mode : Mode) :
    categoryOf tag cls pen mode =
      if tag ≤ 1983 then if cls = 15 then .menu else if cls = 14 ∨ mode = .track then .foreign else .drawing
      else if tag ≤ 1999 ∧ (tag - 1984) / 4 = pen ∧ mode = .track then .ownArm ((tag - 1984) % 4)
      else .foreign := by
  have cross : (if cls = 14 then Category.foreign else if mode = .pick then .drawing else .foreign) =
      if cls = 14 ∨ mode = .track then .foreign else .drawing := by
    cases mode <;> by_cases reference : cls = 14 <;> simp [reference]
  rw [categoryOf, cross]

theorem categoryOf_menu (button : tag ≤ 1983) (menu : cls = 15) : categoryOf tag cls pen mode = .menu := by
  rw [categoryOf_eq, if_pos button, if_pos menu]

theorem categoryOf_foreign
    (foreign : tag ≤ 1983 ∧ (cls = 14 ∨ cls ≠ 15 ∧ mode = .track) ∨
      1984 ≤ tag ∧ tag ≤ 1999 ∧ ((tag - 1984) / 4 ≠ pen ∨ mode = .pick) ∨ 2000 ≤ tag) :
    categoryOf tag cls pen mode = .foreign := by
  rw [categoryOf_eq]
  rcases foreign with ⟨low, cross⟩ | ⟨past, arm, other⟩ | high
  · have not_menu : cls ≠ 15 := by
      rcases cross with cross | ⟨not_menu, -⟩
      · omega
      · exact not_menu
    rw [if_pos low, if_neg not_menu, if_pos (cross.imp_right And.right)]
  · refine (if_neg (by omega)).trans (if_neg fun ⟨_, own, track⟩ => ?_)
    rcases other with other | pick
    · exact other own
    · rw [pick] at track
      cases track
  · exact (if_neg (by omega)).trans (if_neg fun ⟨arm, _⟩ => by omega)

end

/-! ## Pulses dropped, ignored and unmatched (R20 to R22, R44) -/

section
variable {s : State} {p : Pen} {ws : List Word}

theorem State.pulse_of_dropped (not_resetting : s.regs.resetting = false) {k : Nat}
    (mark : (s.pen p).deadMark = some ((s.head (s.penHead p)).frame, k)) (early : (s.head (s.penHead p)).step < k + 8) :
    s.pulse p = s := by
  have dropped : deadTimeDrops (s.pen p).deadMark (s.head (s.pen p).opts.head).frame (s.head (s.pen p).opts.head).step = true := by
    rw [mark]
    exact Bool.and_eq_true_iff.2 ⟨decide_eq_true rfl, decide_eq_true early⟩
  simp only [State.pulse, not_resetting, dropped, Bool.false_eq_true, if_false, if_true]

/-- A hit under a condition of R22 is only counted. -/
theorem State.takeHit_of_ignored {c : PenChannel}
    (ignored : c.state = .disarmed ∨ (s.head c.opts.head).state ≠ .synced ∨ (s.head c.opts.head).hold = true ∨
      c.state = .armed ∧ s.activeCtx c.opts.head = none) (h : Nat) (saturated : Bool) (frame : Long) :
    (s.setPen p c).takeHit p h saturated frame = (s.setPen p c).count p PenCounters.incIgnored := by
  have seen : (s.setPen p c).pen p = c := s.pen_setPen_self p c
  simp only [State.takeHit, seen, State.head_setPen]
  by_cases at_once : c.state = .disarmed ∨ (s.head c.opts.head).state ≠ .synced ∨ (s.head c.opts.head).hold = true
  · exact if_pos at_once
  · rcases ignored with off | unsynced | held | ⟨armed, no_context⟩
    · exact absurd (.inl off) at_once
    · exact absurd (.inr (.inl unsynced)) at_once
    · exact absurd (.inr (.inr held)) at_once
    · have no_context' : (s.setPen p c).activeCtx c.opts.head = none := no_context
      have not_calibrating : ¬ c.state = .calibrating := by
        rw [armed]
        exact nofun
      rw [if_neg at_once, if_neg not_calibrating, no_context']

theorem exec_penPulse_of_ignored (taken : s.hitTaken p)
    (ignored : (s.pen p).state = .disarmed ∨ (s.head (s.penHead p)).state ≠ .synced ∨ (s.head (s.penHead p)).hold = true ∨
      (s.pen p).state = .armed ∧ s.activeCtx (s.penHead p) = none) :
    exec (.penPulse p) s =
      .next (s.setPen p { s.penAfterHit p with counters := (s.penAfterHit p).counters.incIgnored }).grant := by
  refine congrArg (fun t : State => Host.Outcome.next t.grant) ?_
  rw [State.pulse_of_hitTaken taken, State.takeHit_of_ignored (c := s.penAfterHit p) ignored, State.count_setPen]

theorem exec_penPulse_of_unmatched (hit : s.hitCorrelated p ws) {why : Unmatched} (unmatched : s.correlated p = .error why) :
    exec (.penPulse p) s =
      .next
        (s.setPen p
          { s.penAfterHit p with
            counters := (s.penAfterHit p).counters.incUnmatched
            lastUnmatched := some (why, (s.head (s.penHead p)).frame) }).grant := by
  obtain ⟨taken, -⟩ := id hit
  have unmatched' : correlate (s.head (s.penAfterHit p).opts.head) (s.penAfterHit p).delay (s.head (s.penHead p)).step
      (s.head (s.penHead p)).saturated = .error why := unmatched
  refine congrArg (fun t : State => Host.Outcome.next t.grant) ?_
  rw [State.pulse_of_hitTaken taken, State.takeHit_of_hitCorrelated hit, State.armedHit, State.pen_setPen_self, State.head_setPen]
  simp only [unmatched', State.count_setPen, State.setPen_setPen, State.pen_setPen_self]

/-! ## Matched hits (R47 to R53) -/

theorem State.deliverHit_foreign {t : ClassifiedHit} (foreign : t.cat = .foreign) :
    s.deliverHit t = s.count t.pen PenCounters.incForeign := by
  simp only [State.deliverHit, foreign]

theorem State.deliverHit_menu {t : ClassifiedHit} (menu : t.cat = .menu) : s.deliverHit t = s.menuHit t := by
  simp only [State.deliverHit, menu]

end

/-- Settles O20: dropped, ignored, unmatched, foreign and matched. -/
theorem pulsesCountedOnly : Obligations.PulsesCountedOnly := by
  refine fun p s => ⟨fun not_resetting k mark early => ?_, fun taken ignored => exec_penPulse_of_ignored taken ignored,
    fun ws hit => ⟨fun why unmatched => exec_penPulse_of_unmatched hit unmatched, fun st k matched foreign => ?_, fun st k matched => ?_⟩⟩
  · exact congrArg (fun t : State => Host.Outcome.next t.grant) (State.pulse_of_dropped not_resetting mark early)
  · refine (exec_penPulse_of_correlated hit matched).trans (congrArg (fun t : State => Host.Outcome.next t.grant) ?_)
    exact (State.deliverHit_foreign (categoryOf_foreign foreign)).trans (s.count_setPen p _ _)
  · refine (exec_penPulse_of_correlated hit matched).trans (congrArg (fun t : ClassifiedHit =>
      Host.Outcome.next ((s.setPen p (s.penAfterHit p)).deliverHit t).grant) ?_)
    exact congrArg (fun cat => { s.classify p ws (s.head (s.penHead p)).step (s.head (s.penHead p)).frame st k with cat := cat })
      (categoryOf_eq _ _ _ _)

/-! ## MENU hits (R115, R116) -/

theorem lockedOn_iff (l : Option Lockout) (b : Nat) : lockedOn l b = true ↔ ∃ f, l = some { button := b, last := f } := by
  rcases l with _ | ⟨button, last⟩
  · exact ⟨nofun, fun ⟨_, same⟩ => by cases same⟩
  · refine ⟨fun same => ⟨last, ?_⟩, fun ⟨f, same⟩ => ?_⟩
    · obtain rfl : button = b := beq_iff_eq.1 same
      rfl
    · cases same
      exact beq_self_eq_true b

/-- The count of the run that a hit on button `b` makes or goes on with. -/
def runCount (run : Option ConfirmRun) (b : Nat) (f : Long) : Nat :=
  match run with
  | some r => if r.button = b ∧ r.last = f then r.count else if r.button = b ∧ r.last = f - 1 then r.count + 1 else 1
  | none => 1

theorem nextRun_eq (run : Option ConfirmRun) (b : Nat) (f : Long) :
    nextRun run b f = { button := b, count := runCount run b f, last := f } := by
  rcases run with _ | ⟨button, count, last⟩
  · rfl
  · unfold nextRun runCount
    dsimp only
    by_cases again : button = b ∧ last = f
    · rw [if_pos again, if_pos again, again.1, again.2]
    · rw [if_neg again, if_neg again]
      by_cases next : button = b ∧ last = f - 1
      · rw [if_pos next, if_pos (show button = b ∧ last = prevFrame f from next), next.1]
      · rw [if_neg next, if_neg (show ¬ (button = b ∧ last = prevFrame f) from next)]

/-- The one button with a tag is found by its index. -/
theorem findIdx_of_unique {table : List Button} {b tag : Nat} {btn : Button} (found : table[b]? = some btn) (tagged : btn.tag = tag)
    (unique : ∀ j other, table[j]? = some other → other.tag = tag → j = b) :
    table.findIdx? (fun c => c.tag == tag) = some b := by
  obtain ⟨below, at_index⟩ := List.getElem?_eq_some_iff.1 found
  refine List.findIdx?_eq_some_iff_getElem.2 ⟨below, beq_iff_eq.2 (at_index ▸ tagged), fun j before same => ?_⟩
  exact Nat.ne_of_lt before (unique j _ (List.getElem?_eq_getElem _) (beq_iff_eq.1 same))

section
variable {s : State} {t : ClassifiedHit}

theorem State.menuHit_of_load (loading : (s.menu (s.pen t.pen).opts.head).load ≠ none) :
    s.menuHit t = s.count t.pen PenCounters.incMenuBusy := if_pos (Option.isSome_iff_ne_none.2 loading)

variable (no_load : (s.menu (s.pen t.pen).opts.head).load = none)
include no_load

theorem State.menuHit_of_no_button (off_table : ∀ b ∈ (s.menu (s.pen t.pen).opts.head).table, b.tag ≠ t.tag) :
    s.menuHit t = s.count t.pen PenCounters.incFiltered := by
  have not_found : (s.menu (s.pen t.pen).opts.head).table.findIdx? (fun b => b.tag == t.tag) = none :=
    List.findIdx?_eq_none_iff.2 fun b mem => beq_eq_false_iff_ne.2 (off_table b mem)
  simp only [State.menuHit, no_load, Option.isSome_none, Bool.false_eq_true, if_false, not_found]

variable {b : Nat} {btn : Button}
  (at_index : (s.menu (s.pen t.pen).opts.head).table.findIdx? (fun b => b.tag == t.tag) = some b)
  (found : (s.menu (s.pen t.pen).opts.head).table[b]? = some btn)
include at_index found

theorem State.menuHit_of_button :
    s.menuHit t =
      if lockedOn (s.pen t.pen).lockout b then
        s.setPen t.pen { s.pen t.pen with lockout := some { button := b, last := t.frame } }
      else if btn.kind = .escape ∨ runCount (s.pen t.pen).run b t.frame = ctxK t.ctx then
        (s.setPen t.pen { s.pen t.pen with run := none, lockout := some { button := b, last := t.frame } }).confirm t.pen b btn t.frame
      else
        s.setPen t.pen
          { s.pen t.pen with run := some { button := b, count := runCount (s.pen t.pen).run b t.frame, last := t.frame } } := by
  simp only [State.menuHit, no_load, Option.isSome_none, Bool.false_eq_true, if_false, at_index, found, nextRun_eq]

end

/-- What a pen keeps of a run or lockout at a judged frame (R116). -/
theorem filter_survives {α : Type} (x : Option α) (last : α → Long) (state : PenState) (frame : Long) :
    x.filter (fun a => decide (state ≠ .calibrating) && last a == prevFrame frame) =
      x.elim none fun a => if state ≠ .calibrating ∧ last a = frame - 1 then some a else none := by
  cases x with
  | none => rfl
  | some a =>
    rw [Option.filter_some]
    refine if_congr ?_ rfl rfl
    rw [Bool.and_eq_true, decide_eq_true_iff, beq_iff_eq]
    exact Iff.rfl

theorem State.runJudgement_eq (s : State) (p : Pen) (frame : Long) :
    s.runJudgement p frame =
      { s with
        pens :=
          s.pens.set p
            { s.pen p with
              run :=
                match (s.pen p).run with
                | some r => if (s.pen p).state ≠ .calibrating ∧ r.last = frame - 1 then some r else none
                | none => none
              lockout :=
                match (s.pen p).lockout with
                | some l => if (s.pen p).state ≠ .calibrating ∧ l.last = frame - 1 then some l else none
                | none => none } } := by
  rw [State.runJudgement, filter_survives, filter_survives]
  rcases (s.pen p).run with _ | r <;> rcases (s.pen p).lockout with _ | l <;> rfl

/-- Settles O26: the hit by load, table, lockout and run; the judgement by run and lockout. -/
theorem menuHitTaken : Obligations.MenuHitTaken := by
  refine ⟨fun p s ws st k hit matched button menu => ?_, fun p frame s => s.runJudgement_eq p frame⟩
  intro c m frame result
  have seen : (s.setPen p c).pen p = c := s.pen_setPen_self p c
  have delivered : ∀ {u : State},
      (s.setPen p c).menuHit (s.classify p ws (s.head (s.penHead p)).step frame st k) = u →
        exec (.penPulse p) s = .next u.grant := fun taken =>
    (exec_penPulse_of_correlated hit matched).trans (congrArg (fun u : State => Host.Outcome.next u.grant)
      ((State.deliverHit_menu (categoryOf_menu button menu)).trans taken))
  have unit : (s.setPen p c).menu ((s.setPen p c).pen p).opts.head = m := by rw [seen]; rfl
  refine ⟨fun loading => delivered ?_, fun no_load off_table => delivered ?_, fun b btn no_load found tagged unique => ?_⟩
  · exact (State.menuHit_of_load (unit ▸ loading)).trans (s.count_setPen p c _)
  · exact (State.menuHit_of_no_button (unit ▸ no_load) (unit ▸ off_table)).trans (s.count_setPen p c _)
  · intro count
    have hit_button := State.menuHit_of_button (s := s.setPen p c)
      (t := s.classify p ws (s.head (s.penHead p)).step frame st k) (b := b) (btn := btn) (unit ▸ no_load)
      (unit ▸ findIdx_of_unique found tagged unique) (unit ▸ found)
    rw [show (s.classify p ws (s.head (s.penHead p)).step frame st k).pen = p from rfl, seen, s.setPen_setPen, s.setPen_setPen, s.setPen_setPen] at hit_button
    have open_button : (∀ f, c.lockout ≠ some { button := b, last := f }) → ¬ lockedOn c.lockout b = true := fun unlocked locked =>
      (lockedOn_iff _ _).1 locked |>.elim unlocked
    refine ⟨fun f locked => ?_, fun unlocked not_escape short => ?_, fun unlocked confirms => ?_⟩
    · exact delivered (hit_button.trans (if_pos ((lockedOn_iff _ _).2 ⟨f, locked⟩)))
    · refine delivered (hit_button.trans ((if_neg (open_button unlocked)).trans ((if_neg ?_).trans ?_)))
      · exact fun either => either.elim not_escape short
      · rfl
    · exact delivered (hit_button.trans ((if_neg (open_button unlocked)).trans (if_pos confirms)))

end Sys2Proof.Machine
end
